-- ==== Sys2Proof/Word.lean ====
section
/-! DEFINITION. The bytes and pixels of the part, the eight panel positions, and the plainest arithmetic on counts. -/

namespace Sys2Proof

/-- A character of the signline or a byte of the panel chain. -/
abbrev Byte := BitVec 8

/-- A palette index 0-15 (spec/00 Table 0-3); row coding packs it into four bits (R124, R125). -/
abbrev Pixel := BitVec 4

/-- A panel position 1-8, held as 0-7. -/
abbrev Pos := Fin 8

/-- The position number 1-8 as the spec writes it. -/
def Pos.num (p : Pos) : Nat := p.val + 1

/-- The positions in ascending order. -/
def Pos.all : List Pos := [0, 1, 2, 3, 4, 5, 6, 7]

/-- The position with this number, if the number is 1-8. -/
def Pos.ofNum? (n : Nat) : Option Pos := Pos.all.find? fun p => p.num == n

/-- "Clamped": replaced by the nearer end of the range if outside it (spec/00 section 4.1). -/
def clampTo (lo hi n : Nat) : Nat := max lo (min hi n)

/-- A count that rises by 1 and stays at its top value once reached. -/
def satInc (top n : Nat) : Nat := min top (n + 1)

/-- One value for each of the eight panel positions. -/
structure Per8 (α : Type) where
  p1 : α
  p2 : α
  p3 : α
  p4 : α
  p5 : α
  p6 : α
  p7 : α
  p8 : α
deriving DecidableEq, Repr

namespace Per8

def all (a : α) : Per8 α := ⟨a, a, a, a, a, a, a, a⟩

def get (v : Per8 α) : Pos → α
  | 0 => v.p1 | 1 => v.p2 | 2 => v.p3 | 3 => v.p4
  | 4 => v.p5 | 5 => v.p6 | 6 => v.p7 | 7 => v.p8

/-- The family with the value `f p` at each position `p`. -/
def tabulate (f : Pos → α) : Per8 α := ⟨f 0, f 1, f 2, f 3, f 4, f 5, f 6, f 7⟩

def set (v : Per8 α) (p : Pos) (a : α) : Per8 α := tabulate fun q => if q = p then a else v.get q

def toList (v : Per8 α) : List α := [v.p1, v.p2, v.p3, v.p4, v.p5, v.p6, v.p7, v.p8]

end Per8

/-- A set of panel positions. -/
abbrev PosSet := Per8 Bool

end Sys2Proof
end

