-- ==== Sys2Proof/Syntax.lean ====
section
/-! DEFINITION. The commands of the part: one constructor of `Instr` for each row of spec/opcode_table.json, with its operands. A request's fields have the widths of Formats (R178, Table 13-5); values that its owning rule refuses are representable. -/

namespace Sys2Proof

/-- How a kept frame was addressed (R161). -/
inductive Addressing where
  | unit | group | broadcast
deriving DecidableEq, Repr

/-- How a request reached the part: its addressing and the tag its reply echoes (R161, R163). -/
structure Via where
  addressing : Addressing
  tag        : Byte
deriving DecidableEq, Repr

/-- The levels of the strap pins (R155). -/
structure Straps where
  baud   : BitVec 2
  parity : Bool
  addr   : BitVec 6
deriving DecidableEq, Repr

/-- The blocks that do work at an internal tick (spec/00 section 2.2, R52; uptime: R171). -/
inductive TickBlock where
  | clock | table | batch | supervisor | overlays | composer | chain | uptime
deriving DecidableEq, Repr

/-- The fields of PUT_DEPARTURE (Table 13-6); a predicted time of 0xFFFFFF is absent (Table 13-4). -/
structure RawDeparture where
  trip      : BitVec 16
  platform  : Byte
  linePh    : BitVec 16
  destPh    : BitVec 16
  scheduled : BitVec 24
  predicted : BitVec 24
  status    : Byte
deriving DecidableEq, Repr

/-- The fields of SET_PANEL (Table 13-5). -/
structure RawPanel where
  position : Byte
  x        : BitVec 16
  y        : Byte
  width    : Byte
  height   : Byte
  scan     : Byte
  gainR    : Byte
  gainG    : Byte
  gainB    : Byte
deriving DecidableEq, Repr

/-- A field of a departure line: its x within the line and its width. -/
structure RawField where
  x     : BitVec 16
  width : BitVec 16
deriving DecidableEq, Repr

/-- The kind-dependent part of a line definition (R62, spec/13 section 13.2). `other` is a kind byte beyond the list. -/
inductive RawBody where
  | departure (filter : BitVec 16) (rank showCancelled : Byte) (code dest time : RawField)
  | clock (format align : Byte)
  | phrase (id : BitVec 16) (align : Byte)
  | band (id : BitVec 16)
  | other (kind : Byte)
deriving DecidableEq, Repr

/-- A line definition as SET_PAGE carries it. -/
structure RawLine where
  y      : Byte
  height : Byte
  x      : BitVec 16
  width  : BitVec 16
  font   : Byte
  fg     : Byte
  bg     : Byte
  body   : RawBody
deriving DecidableEq, Repr

/-- The fields of SET_COUNTDOWN (R72). -/
structure RawCountdown where
  due       : Byte
  bias      : Byte
  maxMin    : Byte
  rise      : Byte
  suffix    : BitVec 16
  duePh     : BitVec 16
  cancelled : BitVec 16
  delayed   : BitVec 16
  held      : BitVec 16
deriving DecidableEq, Repr

/-- The fields of PUSH_OVERLAY (Table 13-7). -/
structure RawOverlay where
  id        : Byte
  scope     : Byte
  phrase    : BitVec 16
  present   : Byte
  speed     : Byte
  remaining : BitVec 16
deriving DecidableEq, Repr

/-- One red, green and blue component. -/
structure RGB where
  r : Byte
  g : Byte
  b : Byte
deriving DecidableEq, Repr

/-- The fields of SET_BRIGHTNESS (R150). -/
structure RawBrightness where
  mode  : Byte
  fixed : Byte
  hyst  : Byte
  slew  : Byte
  bmin  : Byte
  bmax  : Byte
deriving DecidableEq, Repr

/-- One breakpoint (C, B) of SET_LIGHT_CURVE (R151). -/
structure RawPoint where
  c : BitVec 16
  b : Byte
deriving DecidableEq, Repr

/-- The six breakpoints of SET_LIGHT_CURVE (R151). -/
structure RawCurve where
  q0 : RawPoint
  q1 : RawPoint
  q2 : RawPoint
  q3 : RawPoint
  q4 : RawPoint
  q5 : RawPoint
deriving DecidableEq, Repr

/-- The result codes of Table 12-2. -/
inductive ResultCode where
  | done | busy | badLength | badField | unknownKind | wrongMode | notFound | noSpace | tableFull | noBatch | tagMismatch
deriving DecidableEq, Repr

/-- The commands, one constructor per row of spec/opcode_table.json. -/
inductive Instr where
  -- power, reset and time (R155, R52, R39, and the events at a tick)
  | powerOn (straps : Straps)
  | resetPin (straps : Straps)
  | internalTick (order : List TickBlock)
  | subTick (withTick : Bool)
  | clockEndOfDayHold (withTick : Bool)
  | clockCoasting
  | clockLapsed
  | batchWindow
  | supervisorExpired
  | overlayExpired
  | dwellExpiry
  | probeRoundDue
  | probeRoundStart
  -- the light sensor (R146, R149)
  | luxInPulse
  | lightWindowEnd
  -- the signline and the request handler (R155 to R170, R173, R176)
  | receiveCharacter (data : Byte) (parity stop : Bool)
  | lineIdleSeen
  | frameGap
  | lineBreak
  | linkReset
  | frameComplete (last : Byte)
  | requestTake
  | replyStart
  | replyWithheld
  | replySent
  | unitReset (straps : Straps)
  -- requests (Table 12-1)
  | identify (v : Via)
  | status (v : Via)
  | resetUnitAll (v : Via)
  | resetUnitTables (v : Via)
  | enableNotices (v : Via) (classes : BitVec 16)
  | setGroups (v : Via) (a b : Byte)
  | setReplyMode (v : Via) (mode : Byte)
  | timeMark (v : Via) (day : BitVec 16) (seconds : BitVec 24) (sixteenths : Byte)
  | setClockRules (v : Via) (k tol : Byte) (coast lapse : BitVec 16)
  | readClock (v : Via)
  | batchOpen (v : Via) (tag mode : Byte)
  | putDeparture (v : Via) (d : RawDeparture)
  | dropDeparture (v : Via) (trip : BitVec 16)
  | batchClose (v : Via) (tag : Byte)
  | setBatchWindows (v : Via) (gap total : Byte)
  | setSupervisor (v : Via) (period : BitVec 16) (action hold arm : Byte)
  | readDeparture (v : Via) (trip : BitVec 16)
  | listDepartures (v : Via) (start : Byte)
  | setRetirement (v : Via) (margin : BitVec 16)
  | setBoard (v : Via) (width : BitVec 16) (height count : Byte)
  | enumerationStart
  | enumerationComplete (raw : List Byte)
  | enumerationTimeout
  | setPanel (v : Via) (p : RawPanel)
  | setMode (v : Via) (mode : Byte)
  | setPage (v : Via) (index dwell language skip : Byte) (lines : List RawLine)
  | queryLine (v : Via) (index : Byte)
  | setCountdown (v : Via) (c : RawCountdown)
  | pushOverlay (v : Via) (o : RawOverlay)
  | withdrawOverlay (v : Via) (id : Byte)
  | listOverlays (v : Via)
  | setPhrase (v : Via) (id : BitVec 16) (v0 v1 v2 : List Byte)
  | dropPhrase (v : Via) (id : BitVec 16)
  | setGlyphs (v : Via) (font height spacing first : Byte) (widths bitmaps : List Byte)
  | dropFont (v : Via) (font : Byte)
  | storeReport (v : Via)
  | setPalette (v : Via) (first : Byte) (entries : List RGB)
  | setChainRules (v : Via) (retry fault probe : Byte)
  | panelReport (v : Via)
  | setBrightness (v : Via) (b : RawBrightness)
  | setLightCurve (v : Via) (c : RawCurve)
  | readLight (v : Via)
  -- the frame coder and the panel chain (R119, R120, R134, R136)
  | codingComplete
  | deliveryStart
  | answerAck (raw : List Byte)
  | answerNak (raw : List Byte)
  | answerTimeout
  | deliveryEnd
deriving DecidableEq, Repr

end Sys2Proof
end

