-- ==== Sys2Proof/Decode.lean ====
section
/-! DEFINITION. Reading a request from a frame's kind and payload (R169, R178, Tables 13-3 and 13-5), the encoder of a request, and `decodeTableWord`: no row of spec/opcode_table.json has bits, so no word spells a command. -/

namespace Sys2Proof

/-- Two bytes, high byte first (R178). -/
def be16 (a b : Byte) : BitVec 16 := a ++ b

/-- Three bytes, high byte first (R178). -/
def be24 (a b c : Byte) : BitVec 24 := a ++ b ++ c

/-- The bytes of a two-byte field, high byte first (R178). -/
def bytes16 (w : BitVec 16) : List Byte := [w.extractLsb' 8 8, w.extractLsb' 0 8]

/-- The bytes of a three-byte field, high byte first (R178). -/
def bytes24 (w : BitVec 24) : List Byte := [w.extractLsb' 16 8, w.extractLsb' 8 8, w.extractLsb' 0 8]

/-- What the checks of R169 make of a frame: a request for its owning rule, or a refusal. -/
inductive Decoded where
  | request (c : Instr)
  | refuse (code : ResultCode)
deriving DecidableEq, Repr

/-- A line definition's 16 kind-dependent bytes (spec/13 section 13.2); bytes a kind does not use are not read. -/
def decodeBody (kind : Byte) (b : List Byte) : RawBody :=
  match kind.toNat, b with
  | 0, f1 :: f0 :: rank :: show_ :: c3 :: c2 :: c1 :: c0 :: d3 :: d2 :: d1 :: d0 :: t3 :: t2 :: t1 :: t0 :: _ =>
    .departure (be16 f1 f0) rank show_ ⟨be16 c3 c2, be16 c1 c0⟩ ⟨be16 d3 d2, be16 d1 d0⟩ ⟨be16 t3 t2, be16 t1 t0⟩
  | 1, f :: a :: _ => .clock f a
  | 2, p1 :: p0 :: a :: _ => .phrase (be16 p1 p0) a
  | 3, p1 :: p0 :: _ => .band (be16 p1 p0)
  | _, _ => .other kind

/-- `k` line definitions of 26 bytes each (spec/13 section 13.2). -/
def decodeLines : Nat → List Byte → List RawLine
  | 0, _ => []
  | k + 1, kind :: y :: h :: x1 :: x0 :: w1 :: w0 :: font :: fg :: bg :: rest =>
    { y := y, height := h, x := be16 x1 x0, width := be16 w1 w0, font := font, fg := fg, bg := bg, body := decodeBody kind rest } ::
      decodeLines k (rest.drop 16)
  | _ + 1, _ => []

/-- Palette entries, three bytes each. -/
def decodeRGBs : List Byte → List RGB
  | r :: g :: b :: rest => ⟨r, g, b⟩ :: decodeRGBs rest
  | _ => []

/-- A request with no payload. -/
def decodeEmpty (c : Instr) (p : List Byte) : Decoded := if p = [] then .request c else .refuse .badLength

/-- A request whose payload is one byte. -/
def decodeByte (f : Byte → Instr) (p : List Byte) : Decoded :=
  match p with
  | [a] => .request (f a)
  | _ => .refuse .badLength

/-- A request whose payload is two one-byte fields, in the order in which the request's rule names them. For SET_GROUPS, BATCH_OPEN and
SET_BATCH_WINDOWS that order is the model's choice (log 36). -/
def decodeTwo (f : Byte → Byte → Instr) (p : List Byte) : Decoded :=
  match p with
  | [a, b] => .request (f a b)
  | _ => .refuse .badLength

/-- A request whose payload is one two-byte field. -/
def decodeWide (f : BitVec 16 → Instr) (p : List Byte) : Decoded :=
  match p with
  | [a, b] => .request (f (be16 a b))
  | _ => .refuse .badLength

/-- RESET_UNIT(scope): ALL is 0 and TABLES is 1; any other scope is refused with BAD_FIELD (R173, Table 13-3). -/
def decodeReset (v : Via) (p : List Byte) : Decoded :=
  match p with
  | [a] => if a = 0#8 then .request (.resetUnitAll v) else if a = 1#8 then .request (.resetUnitTables v) else .refuse .badField
  | _ => .refuse .badLength

def decodeTimeMark (v : Via) (p : List Byte) : Decoded :=
  match p with
  | [d1, d0, s2, s1, s0, x] => .request (.timeMark v (be16 d1 d0) (be24 s2 s1 s0) x)
  | _ => .refuse .badLength

def decodeClockRules (v : Via) (p : List Byte) : Decoded :=
  match p with
  | [k, t, c1, c0, l1, l0] => .request (.setClockRules v k t (be16 c1 c0) (be16 l1 l0))
  | _ => .refuse .badLength

def decodePut (v : Via) (p : List Byte) : Decoded :=
  match p with
  | [t1, t0, pl, l1, l0, d1, d0, s2, s1, s0, e2, e1, e0, st] =>
    .request (.putDeparture v ⟨be16 t1 t0, pl, be16 l1 l0, be16 d1 d0, be24 s2 s1 s0, be24 e2 e1 e0, st⟩)
  | _ => .refuse .badLength

def decodeSupervisor (v : Via) (p : List Byte) : Decoded :=
  match p with
  | [p1, p0, a, h, arm] => .request (.setSupervisor v (be16 p1 p0) a h arm)
  | _ => .refuse .badLength

def decodeBoard (v : Via) (p : List Byte) : Decoded :=
  match p with
  | [w1, w0, h, n] => .request (.setBoard v (be16 w1 w0) h n)
  | _ => .refuse .badLength

def decodePanel (v : Via) (p : List Byte) : Decoded :=
  match p with
  | [n, x1, x0, y, w, h, k, r, g, b] => .request (.setPanel v ⟨n, be16 x1 x0, y, w, h, k, r, g, b⟩)
  | _ => .refuse .badLength

def decodePage (v : Via) (p : List Byte) : Decoded :=
  match p with
  | i :: d :: l :: f :: k :: rest =>
    if rest.length = 26 * k.toNat then .request (.setPage v i d l f (decodeLines k.toNat rest)) else .refuse .badLength
  | _ => .refuse .badLength

/-- SET_COUNTDOWN: within the four settings and within the five phrase ids, the order of Table 5-1 is the model's choice (log 36). -/
def decodeCountdown (v : Via) (p : List Byte) : Decoded :=
  match p with
  | [du, bi, mm, rc, s1, s0, d1, d0, c1, c0, e1, e0, h1, h0] =>
    .request (.setCountdown v ⟨du, bi, mm, rc, be16 s1 s0, be16 d1 d0, be16 c1 c0, be16 e1 e0, be16 h1 h0⟩)
  | _ => .refuse .badLength

def decodeOverlay (v : Via) (p : List Byte) : Decoded :=
  match p with
  | [i, sc, p1, p0, pr, sp, r1, r0] => .request (.pushOverlay v ⟨i, sc, be16 p1 p0, pr, sp, be16 r1 r0⟩)
  | _ => .refuse .badLength

def decodePhrase (v : Via) (p : List Byte) : Decoded :=
  match p with
  | i1 :: i0 :: l0 :: l1 :: l2 :: rest =>
    if rest.length = l0.toNat + l1.toNat + l2.toNat then
      .request (.setPhrase v (be16 i1 i0) (rest.take l0.toNat) ((rest.drop l0.toNat).take l1.toNat) (rest.drop (l0.toNat + l1.toNat)))
    else .refuse .badLength
  | _ => .refuse .badLength

/-- SET_GLYPHS: only that the payload holds the fixed fields and the widths list is checked here (R169); R108 does the rest. -/
def decodeGlyphs (v : Via) (p : List Byte) : Decoded :=
  match p with
  | f :: h :: s :: c :: n :: rest =>
    if n.toNat ≤ rest.length then .request (.setGlyphs v f h s c (rest.take n.toNat) (rest.drop n.toNat)) else .refuse .badLength
  | _ => .refuse .badLength

def decodePalette (v : Via) (p : List Byte) : Decoded :=
  match p with
  | f :: n :: rest => if rest.length = 3 * n.toNat then .request (.setPalette v f (decodeRGBs rest)) else .refuse .badLength
  | _ => .refuse .badLength

/-- SET_CHAIN_RULES: that the three bytes stand in the order in which R142 names them is the model's choice (log 36). -/
def decodeChainRules (v : Via) (p : List Byte) : Decoded :=
  match p with
  | [r, f, e] => .request (.setChainRules v r f e)
  | _ => .refuse .badLength

/-- SET_BRIGHTNESS: that the six bytes stand in the order in which R150 names them is the model's choice (log 36). -/
def decodeBrightness (v : Via) (p : List Byte) : Decoded :=
  match p with
  | [m, f, h, s, lo, hi] => .request (.setBrightness v ⟨m, f, h, s, lo, hi⟩)
  | _ => .refuse .badLength

def decodeCurve (v : Via) (p : List Byte) : Decoded :=
  match p with
  | [a1, a0, ab, b1, b0, bb, c1, c0, cb, d1, d0, db, e1, e0, eb, f1, f0, fb] =>
    .request (.setLightCurve v ⟨⟨be16 a1 a0, ab⟩, ⟨be16 b1 b0, bb⟩, ⟨be16 c1 c0, cb⟩, ⟨be16 d1 d0, db⟩, ⟨be16 e1 e0, eb⟩, ⟨be16 f1 f0, fb⟩⟩)
  | _ => .refuse .badLength

/-- The checks of R169 on a kind code and a payload: a kind of Table 13-3, then the size of Table 13-5. -/
def decodeRequest (v : Via) (kind : Byte) (p : List Byte) : Decoded :=
  match kind.toNat with
  | 0x01 => decodeEmpty (.identify v) p
  | 0x02 => decodeEmpty (.status v) p
  | 0x03 => decodeReset v p
  | 0x04 => decodeWide (.enableNotices v) p
  | 0x05 => decodeTwo (.setGroups v) p
  | 0x06 => decodeByte (.setReplyMode v) p
  | 0x10 => decodeTimeMark v p
  | 0x11 => decodeClockRules v p
  | 0x12 => decodeEmpty (.readClock v) p
  | 0x20 => decodeTwo (.batchOpen v) p
  | 0x21 => decodePut v p
  | 0x22 => decodeWide (.dropDeparture v) p
  | 0x23 => decodeByte (.batchClose v) p
  | 0x24 => decodeTwo (.setBatchWindows v) p
  | 0x25 => decodeSupervisor v p
  | 0x26 => decodeWide (.readDeparture v) p
  | 0x27 => decodeByte (.listDepartures v) p
  | 0x28 => decodeWide (.setRetirement v) p
  | 0x30 => decodeBoard v p
  | 0x31 => decodePanel v p
  | 0x32 => decodeByte (.setMode v) p
  | 0x33 => decodePage v p
  | 0x34 => decodeByte (.queryLine v) p
  | 0x35 => decodeCountdown v p
  | 0x40 => decodeOverlay v p
  | 0x41 => decodeByte (.withdrawOverlay v) p
  | 0x42 => decodeEmpty (.listOverlays v) p
  | 0x50 => decodePhrase v p
  | 0x51 => decodeWide (.dropPhrase v) p
  | 0x52 => decodeGlyphs v p
  | 0x53 => decodeByte (.dropFont v) p
  | 0x54 => decodeEmpty (.storeReport v) p
  | 0x60 => decodePalette v p
  | 0x61 => decodeChainRules v p
  | 0x62 => decodeEmpty (.panelReport v) p
  | 0x70 => decodeBrightness v p
  | 0x71 => decodeCurve v p
  | 0x72 => decodeEmpty (.readLight v) p
  | _ => .refuse .unknownKind

/-- The kind code of a request (Table 13-3); 0, which no request has, for the other commands. -/
def requestKind : Instr → Byte
  | .identify _ => 0x01#8
  | .status _ => 0x02#8
  | .resetUnitAll _ => 0x03#8
  | .resetUnitTables _ => 0x03#8
  | .enableNotices _ _ => 0x04#8
  | .setGroups _ _ _ => 0x05#8
  | .setReplyMode _ _ => 0x06#8
  | .timeMark _ _ _ _ => 0x10#8
  | .setClockRules _ _ _ _ _ => 0x11#8
  | .readClock _ => 0x12#8
  | .batchOpen _ _ _ => 0x20#8
  | .putDeparture _ _ => 0x21#8
  | .dropDeparture _ _ => 0x22#8
  | .batchClose _ _ => 0x23#8
  | .setBatchWindows _ _ _ => 0x24#8
  | .setSupervisor _ _ _ _ _ => 0x25#8
  | .readDeparture _ _ => 0x26#8
  | .listDepartures _ _ => 0x27#8
  | .setRetirement _ _ => 0x28#8
  | .setBoard _ _ _ _ => 0x30#8
  | .setPanel _ _ => 0x31#8
  | .setMode _ _ => 0x32#8
  | .setPage _ _ _ _ _ _ => 0x33#8
  | .queryLine _ _ => 0x34#8
  | .setCountdown _ _ => 0x35#8
  | .pushOverlay _ _ => 0x40#8
  | .withdrawOverlay _ _ => 0x41#8
  | .listOverlays _ => 0x42#8
  | .setPhrase _ _ _ _ _ => 0x50#8
  | .dropPhrase _ _ => 0x51#8
  | .setGlyphs _ _ _ _ _ _ _ => 0x52#8
  | .dropFont _ _ => 0x53#8
  | .storeReport _ => 0x54#8
  | .setPalette _ _ _ => 0x60#8
  | .setChainRules _ _ _ _ => 0x61#8
  | .panelReport _ => 0x62#8
  | .setBrightness _ _ => 0x70#8
  | .setLightCurve _ _ => 0x71#8
  | .readLight _ => 0x72#8
  | _ => 0#8

/-- The kinds Table 12-1 marks as reading requests. -/
def isReadingKind (kind : Byte) : Bool :=
  [0x01#8, 0x02#8, 0x12#8, 0x26#8, 0x27#8, 0x34#8, 0x42#8, 0x54#8, 0x62#8, 0x72#8].contains kind

/-- How a request reached the part; none for the other commands. -/
def requestVia : Instr → Option Via
  | .identify v | .status v | .resetUnitAll v | .resetUnitTables v | .enableNotices v _ | .setGroups v _ _ | .setReplyMode v _
  | .timeMark v _ _ _ | .setClockRules v _ _ _ _ | .readClock v | .batchOpen v _ _ | .putDeparture v _ | .dropDeparture v _
  | .batchClose v _ | .setBatchWindows v _ _ | .setSupervisor v _ _ _ _ | .readDeparture v _ | .listDepartures v _ | .setRetirement v _
  | .setBoard v _ _ _ | .setPanel v _ | .setMode v _ | .setPage v _ _ _ _ _ | .queryLine v _ | .setCountdown v _ | .pushOverlay v _
  | .withdrawOverlay v _ | .listOverlays v | .setPhrase v _ _ _ _ | .dropPhrase v _ | .setGlyphs v _ _ _ _ _ _ | .dropFont v _
  | .storeReport v | .setPalette v _ _ | .setChainRules v _ _ _ | .panelReport v | .setBrightness v _ | .setLightCurve v _
  | .readLight v => some v
  | _ => none

/-- A line definition's kind byte (Table 13-3). -/
def bodyKind : RawBody → Byte
  | .departure .. => 0#8
  | .clock .. => 1#8
  | .phrase .. => 2#8
  | .band .. => 3#8
  | .other k => k

def encodeField (f : RawField) : List Byte := bytes16 f.x ++ bytes16 f.width

/-- A line definition's 16 kind-dependent bytes; those a kind does not use are sent as 0. -/
def encodeBody : RawBody → List Byte
  | .departure f r c a b t => bytes16 f ++ [r, c] ++ encodeField a ++ encodeField b ++ encodeField t
  | .clock f a => [f, a] ++ List.replicate 14 0#8
  | .phrase p a => bytes16 p ++ [a] ++ List.replicate 13 0#8
  | .band p => bytes16 p ++ List.replicate 14 0#8
  | .other _ => List.replicate 16 0#8

def encodeLine (l : RawLine) : List Byte :=
  [bodyKind l.body, l.y, l.height] ++ bytes16 l.x ++ bytes16 l.width ++ [l.font, l.fg, l.bg] ++ encodeBody l.body

/-- A list's length in one count byte. -/
def countByte (n : Nat) : Byte := BitVec.ofNat 8 n

/-- The payload that carries a request (Table 13-5); empty for the other commands. -/
def requestPayload : Instr → List Byte
  | .resetUnitAll _ => [0#8]
  | .resetUnitTables _ => [1#8]
  | .enableNotices _ c => bytes16 c
  | .setGroups _ a b => [a, b]
  | .setReplyMode _ m => [m]
  | .timeMark _ d s x => bytes16 d ++ bytes24 s ++ [x]
  | .setClockRules _ k t c l => [k, t] ++ bytes16 c ++ bytes16 l
  | .batchOpen _ t m => [t, m]
  | .putDeparture _ d =>
    bytes16 d.trip ++ [d.platform] ++ bytes16 d.linePh ++ bytes16 d.destPh ++ bytes24 d.scheduled ++ bytes24 d.predicted ++ [d.status]
  | .dropDeparture _ t => bytes16 t
  | .batchClose _ t => [t]
  | .setBatchWindows _ g w => [g, w]
  | .setSupervisor _ p a h m => bytes16 p ++ [a, h, m]
  | .readDeparture _ t => bytes16 t
  | .listDepartures _ s => [s]
  | .setRetirement _ m => bytes16 m
  | .setBoard _ w h n => bytes16 w ++ [h, n]
  | .setPanel _ p => [p.position] ++ bytes16 p.x ++ [p.y, p.width, p.height, p.scan, p.gainR, p.gainG, p.gainB]
  | .setMode _ m => [m]
  | .setPage _ i d l f ls => [i, d, l, f, countByte ls.length] ++ ls.flatMap encodeLine
  | .queryLine _ i => [i]
  | .setCountdown _ c =>
    [c.due, c.bias, c.maxMin, c.rise] ++ bytes16 c.suffix ++ bytes16 c.duePh ++ bytes16 c.cancelled ++ bytes16 c.delayed ++ bytes16 c.held
  | .pushOverlay _ o => [o.id, o.scope] ++ bytes16 o.phrase ++ [o.present, o.speed] ++ bytes16 o.remaining
  | .withdrawOverlay _ i => [i]
  | .setPhrase _ i a b c => bytes16 i ++ [countByte a.length, countByte b.length, countByte c.length] ++ a ++ b ++ c
  | .dropPhrase _ i => bytes16 i
  | .setGlyphs _ f h s c ws bs => [f, h, s, c, countByte ws.length] ++ ws ++ bs
  | .dropFont _ f => [f]
  | .setPalette _ f es => [f, countByte es.length] ++ es.flatMap fun e => [e.r, e.g, e.b]
  | .setChainRules _ r f e => [r, f, e]
  | .setBrightness _ b => [b.mode, b.fixed, b.hyst, b.slew, b.bmin, b.bmax]
  | .setLightCurve _ c => [c.q0, c.q1, c.q2, c.q3, c.q4, c.q5].flatMap fun q => bytes16 q.c ++ [q.b]
  | _ => []

/-- The command a word spells by the table's bits: no row has bits, so no word spells a command. -/
def decodeTableWord (_nbits _w : Nat) : Option Instr := none

end Sys2Proof
end

