-- ==== Sys2Proof/Config.lean ====
section
/-! DEFINITION. What the spec leaves without a value, as opaque constants, and the fixed numbers of the part. -/

namespace Sys2Proof

/-- The kinds of work that may hold the panel chain (Table 9-1). -/
inductive ChainActivity where
  | idle | enumerating | delivering | probing
deriving DecidableEq, Repr

namespace Config

/-- Whether the pixel at `row`, `col` of font 0's glyph for `code` is set. R107 gives the size of the glyphs and that code 32
has no pixel set, and no other bitmap. Free value (log 12). -/
opaque font0Pixel (code row col : Nat) : Bool

/-- The byte that carries the chain activity in the PANEL_REPORT reply. R178 sends an enumerated value "numbered as Table 13-3
gives", and that table has no list for the chain activity. Free value (log 13). -/
opaque chainActivityByte (a : ChainActivity) : Byte

end Config

end Sys2Proof
end

