-- ==== Sys2Proof/Machine/State.lean ====
section
/-! DEFINITION. The state of the part, block by block as Table 0-1 of spec/00 names it, and its value after power-on. INVENTORY.md lists every item with its rule. -/

namespace Sys2Proof.Machine

open Sys2Proof

/-! ### The Departure Table (spec/01) -/

/-- Operating status of a departure (Table 1-1). -/
inductive Status where
  | normal | delayed | cancelled | held
deriving DecidableEq, Repr

/-- How a departure line's time field shows a record (Table 1-2). -/
inductive TimeForm where
  | minutes | due | clock | status | empty
deriving DecidableEq, Repr

/-- The stored fields of a departure record (R1). -/
structure Departure where
  trip      : Nat
  platform  : Nat
  linePh    : Nat
  destPh    : Nat
  scheduled : Nat
  predicted : Option Nat
  status    : Status
deriving DecidableEq, Repr

/-- A live record: its stored fields and its derived display fields (R3). -/
structure Live where
  dep   : Departure
  form  : TimeForm
  shown : Option Nat
  rise  : Nat
deriving DecidableEq, Repr

structure Table where
  records     : List Live
  retireAfter : Nat
deriving DecidableEq, Repr

/-! ### The Batch Stage and the Freshness Supervisor (spec/02) -/

/-- An entry of a MERGE batch (R23). -/
inductive Change where
  | put (d : Departure)
  | drop (trip : Nat)
deriving DecidableEq, Repr

/-- The staged content; its form is the batch's mode (Table 2-1). -/
inductive Staged where
  | replace (set : List Departure)
  | merge (changes : List Change)
deriving DecidableEq, Repr

structure Batch where
  tag    : Nat
  staged : Staged
  gap    : Nat
  total  : Nat
deriving DecidableEq, Repr

structure BatchStage where
  stage : Option Batch
  g     : Nat
  w     : Nat
deriving DecidableEq, Repr

inductive SupState where
  | disarmed | armed | expired
deriving DecidableEq, Repr

inductive SupAction where
  | predictionsOff | blankTimes | noticeOnly
deriving DecidableEq, Repr

inductive HoldBehaviour where
  | run | pause
deriving DecidableEq, Repr

structure Supervisor where
  state     : SupState
  period    : Nat
  action    : SupAction
  hold      : HoldBehaviour
  remaining : Nat
deriving DecidableEq, Repr

/-! ### The Service Clock (spec/03, Table 3-1) -/

inductive ClockState where
  | unset | acquiring | locked | coasting | lapsed
deriving DecidableEq, Repr

/-- The Service Clock. `held` is the model's own: an advance has met the end-of-day hold, or a mark has found the clock at it (R40,
R45, log 16). -/
structure Clock where
  state      : ClockState
  day        : Nat
  value      : Nat
  slew       : Int
  agree      : Nat
  age        : Nat
  k          : Nat
  tol        : Nat
  coastAfter : Nat
  lapseAfter : Nat
  held       : Bool
deriving DecidableEq, Repr

/-! ### The Board Composer (spec/04, spec/05) -/

inductive BoardMode where
  | unconfigured | enumerating | blank | run | test | hold
deriving DecidableEq, Repr

/-- Where a placed panel lies on the canvas, its scan ratio and its gains (R55, R56). -/
structure Placement where
  x      : Nat
  y      : Nat
  width  : Nat
  height : Nat
  scan   : Nat
  gainR  : Nat
  gainG  : Nat
  gainB  : Nat
deriving DecidableEq, Repr

inductive Align where
  | left | right | centre
deriving DecidableEq, Repr

inductive ClockFormat where
  | hhmm | hhmmss
deriving DecidableEq, Repr

/-- A field of a departure line, relative to the line's x; width 0 is an absent field (R62). -/
structure Field where
  x     : Nat
  width : Nat
deriving DecidableEq, Repr

/-- The kind of a line and the fields of that kind (Table 4-3). Platform p is bit p − 1 of the filter (R178). -/
inductive LineKind where
  | departure (filter : BitVec 16) (rank : Nat) (showCancelled : Bool) (code dest time : Field)
  | clock (format : ClockFormat) (align : Align)
  | phrase (id : Nat) (align : Align)
  | band (id : Nat)
deriving DecidableEq, Repr

structure LineDef where
  y      : Nat
  height : Nat
  x      : Nat
  width  : Nat
  font   : Nat
  fg     : Pixel
  bg     : Pixel
  kind   : LineKind
deriving DecidableEq, Repr

/-- A defined page (R61, R63). -/
structure Page where
  dwell    : Nat
  language : Nat
  skip     : Bool
  lines    : List LineDef
deriving DecidableEq, Repr

/-- Pages 0-3, each undefined or defined. -/
structure Pages where
  p0 : Option Page
  p1 : Option Page
  p2 : Option Page
  p3 : Option Page
deriving DecidableEq, Repr

/-- What the time field of a departure line draws, with the id of each status phrase as its building took it (R81, R84). -/
inductive TimeValue where
  | none
  | minutes (n suffix : Nat)
  | phrase (id : Nat)
  | time (seconds : Nat)
deriving DecidableEq, Repr

/-- The copied fields of the selected record (Table 5-3). -/
structure Selected where
  trip     : Nat
  platform : Nat
  linePh   : Nat
  destPh   : Nat
deriving DecidableEq, Repr

/-- The content of a line record (Table 4-5). -/
inductive LineContent where
  | departure (sel : Option Selected) (form : TimeForm) (value : TimeValue)
  | clock (state : ClockState) (time : Option Nat)
  | phrase (id : Nat)
  | band (id : Nat)
deriving DecidableEq, Repr

/-- A line record: what its building gave it, and the two items a render sets (Table 4-5, R100). -/
structure LineRecord where
  content : LineContent
  covered : Bool
  drawn   : Option Nat
deriving DecidableEq, Repr

/-- The countdown settings (Table 5-1). -/
structure Countdown where
  due       : Nat
  bias      : Nat
  maxMin    : Nat
  rise      : Nat
  suffix    : Nat
  duePh     : Nat
  cancelled : Nat
  delayed   : Nat
  held      : Nat
deriving DecidableEq, Repr

/-- The board image: its rows from the top, each its pixels from the left. -/
abbrev Canvas := List (List Pixel)

/-- The Board Composer. Two fields are the model's own: `kept`, the line records of a current page that was chosen again and is not
built yet (R64, R66, log 17), and `rendered`, the current page has been drawn by a render since it became current (R97, log 40). -/
structure Board where
  mode       : BoardMode
  width      : Nat
  height     : Nat
  panelCount : Nat
  places     : Per8 (Option Placement)
  pages      : Pages
  current    : Option (Fin 4)
  dwell      : Nat
  lines      : Option (List LineRecord)
  canvas     : Canvas
  pending    : Bool
  allowed    : Bool
  countdown  : Countdown
  kept       : List LineRecord
  rendered   : Bool
deriving DecidableEq, Repr

/-! ### The Overlay Stack (spec/06) -/

inductive Scope where
  | band | full
deriving DecidableEq, Repr

inductive Presentation where
  | still | scroll
deriving DecidableEq, Repr

/-- An overlay record (Table 6-1); presentation STATIC is `still`. -/
structure Overlay where
  id        : Nat
  scope     : Scope
  phrase    : Nat
  present   : Presentation
  speed     : Nat
  remaining : Nat
deriving DecidableEq, Repr

/-- The stack, top first, and the shown-since count of the top (R89). -/
structure Overlays where
  records    : List Overlay
  shownSince : Nat
deriving DecidableEq, Repr

/-! ### The Phrase Store and the Font Store (spec/07) -/

/-- A phrase (Table 7-1); an absent variant is the empty list, since a present one holds at least one code. -/
structure Phrase where
  id : Nat
  v0 : List Byte
  v1 : List Byte
  v2 : List Byte
deriving DecidableEq, Repr

/-- A glyph of an uploaded font with its bitmap bytes as received (R107). -/
structure Glyph where
  code   : Nat
  width  : Nat
  bitmap : List Byte
deriving DecidableEq, Repr

/-- An uploaded font that is not empty (Table 7-3); its glyphs in ascending code order. -/
structure Font where
  height  : Nat
  spacing : Nat
  glyphs  : List Glyph
deriving DecidableEq, Repr

/-- Fonts 1 to 3, each empty or filled (R107). -/
structure Fonts where
  f1 : Option Font
  f2 : Option Font
  f3 : Option Font
deriving DecidableEq, Repr

/-! ### The Frame Coder (spec/08) -/

inductive FrameState where
  | idle | coding | delivering
deriving DecidableEq, Repr

/-- A panel entry of the frame record (Table 8-3): whether it holds stripes, and its drive levels if it holds them. -/
structure Entry where
  pos     : Pos
  geom    : Placement
  striped : Bool
  drive   : Option (List RGB)
deriving DecidableEq, Repr

structure FrameRecord where
  number  : Nat
  entries : List Entry
deriving DecidableEq, Repr

/-- A stripe: eight coded rows in scan order (R123). -/
structure Stripe where
  pos    : Pos
  number : Nat
  rows   : List (List Byte)
deriving DecidableEq, Repr

structure Coder where
  state    : FrameState
  number   : Nat
  dirty    : PosSet
  palDirty : PosSet
  palette  : List RGB
  record   : Option FrameRecord
  stripes  : List Stripe
deriving DecidableEq, Repr

/-! ### The Panel Chain Controller (spec/09) -/

inductive PanelState where
  | absent | active | failing | faulted
deriving DecidableEq, Repr

structure PanelRecord where
  state    : PanelState
  fails    : Nat
  naks     : Nat
  timeouts : Nat
deriving DecidableEq, Repr

/-- An addressed packet of a frame still to be sent, or outstanding (R136). -/
inductive Item where
  | palette (p : Pos)
  | stripe (p : Pos) (n : Nat)
deriving DecidableEq, Repr

/-- A packet of the panel chain (Table 13-10). -/
inductive Packet where
  | enumerate (n : Byte)
  | palette (frame : Byte) (p : Pos) (drive : List RGB)
  | stripe (frame : Byte) (p : Pos) (n : Byte) (rows : List (List Byte))
  | show_ (frame : Byte) (set : PosSet)
  | probe (p : Pos)
  | dark
  | ack (p : Pos)
  | nak (p : Pos)
deriving DecidableEq, Repr

/-- An outstanding addressed packet of a frame and how often it has been sent (R135). -/
structure Outstanding where
  item : Item
  sent : Nat
deriving DecidableEq, Repr

/-- What holds the chain, and how far it is (R130). In `delivering`, `out` is none once SHOW has been sent. In `probing`, `out` is
the position whose answer window is open, and `ended` says that a SET_BOARD has ended the round. -/
inductive ChainWork where
  | idle
  | enumerating
  | delivering (out : Option Outstanding) (rest : List Item) (givenUp : PosSet)
  | probing (out : Pos) (rest : List Pos) (ended : Bool)
deriving DecidableEq, Repr

structure Chain where
  recs       : Per8 PanelRecord
  count      : Nat
  found      : Nat
  work       : ChainWork
  probeCount : Nat
  roundDue   : Bool
  retryLimit : Nat
  faultAfter : Nat
  probeEvery : Nat
  out        : Option Packet
deriving DecidableEq, Repr

/-! ### The Light Meter (spec/10) -/

inductive SensorState where
  | ok | silent | saturated
deriving DecidableEq, Repr

inductive BrightMode where
  | auto | fixed
deriving DecidableEq, Repr

/-- One breakpoint (C, B) of the curve. -/
structure Point where
  c : Nat
  b : Nat
deriving DecidableEq, Repr

/-- `gate` is the count of the running gate window (R146). -/
structure Light where
  gate    : Nat
  last    : Nat
  sensor  : SensorState
  zeroRun : Nat
  target  : Nat
  goal    : Nat
  applied : Nat
  mode    : BrightMode
  fixed   : Nat
  hyst    : Nat
  slew    : Nat
  bmin    : Nat
  bmax    : Nat
  curve   : List Point
deriving DecidableEq, Repr

/-! ### The Notice Queue (spec/12) -/

inductive NoticeClass where
  | line | clock | table | batch | supervisor | panel | overlay | light | refusal
deriving DecidableEq, Repr

/-- A queued notice (R174); `serial` is the model's own name for it (log 27). -/
structure Notice where
  serial : Nat
  cls    : NoticeClass
  code   : Nat
  arg    : Nat
  stamp  : Nat
deriving DecidableEq, Repr

/-- The nine class enables (R174). -/
structure Enables where
  line       : Bool
  clock      : Bool
  table      : Bool
  batch      : Bool
  supervisor : Bool
  panel      : Bool
  overlay    : Bool
  light      : Bool
  refusal    : Bool
deriving DecidableEq, Repr

/-- The queue, oldest first. `serial` and `overflowSets` are the model's own counts (log 27). -/
structure Notices where
  queue        : List Notice
  enables      : Enables
  overflow     : Bool
  serial       : Nat
  overflowSets : Nat
deriving DecidableEq, Repr

/-! ### The Signline Interface and the Request Handler (spec/11, spec/12) -/

/-- The receiver (R158); IN_FRAME holds the characters gathered after the sync. -/
inductive Receiver where
  | hunt
  | idleSeen
  | inFrame (got : List Byte)
  | discard
deriving DecidableEq, Repr

/-- A kept frame in a receive slot (R162). `seq` is the model's own number of its completion (log 10). -/
structure Slot where
  dest       : Byte
  kind       : Byte
  tag        : Byte
  payload    : List Byte
  addressing : Addressing
  stamp      : Nat
  seq        : Nat
deriving DecidableEq, Repr

/-- The three receive slots. -/
structure Slots where
  s1 : Option Slot
  s2 : Option Slot
  s3 : Option Slot
deriving DecidableEq, Repr

inductive ReplyMode where
  | normal | suppressed
deriving DecidableEq, Repr

/-- What the sending of a reply acts on (R143, R166, R173, R176): the values the reply carried. -/
inductive Carried where
  | nothing
  | status (serials : List Nat) (overflow : Bool) (sets trunc crc busy : Nat)
  | panels (naks timeouts : Per8 Nat)
  | reset
deriving DecidableEq, Repr

/-- A reply (R163): the unit address it carries, its request's kind and tag, and its payload. -/
structure Reply where
  seq     : Nat
  dest    : Byte
  kind    : Byte
  tag     : Byte
  payload : List Byte
  carried : Carried
deriving DecidableEq, Repr

structure Line where
  straps      : Straps
  rx          : Receiver
  slots       : Slots
  nextStamp   : Nat
  groupA      : Option Nat
  groupB      : Option Nat
  mode        : ReplyMode
  waiting     : List Reply
  sending     : Option Reply
  trunc       : Nat
  crc         : Nat
  busy        : Nat
  breakOn     : Bool
  resetRaised : Bool
  seq         : Nat
deriving DecidableEq, Repr

/-- The current request (R168); `lost` says that a link reset has been raised since its frame arrived (R160). -/
structure Held where
  slot : Slot
  lost : Bool
deriving DecidableEq, Repr

/-- Where a RESET_UNIT ALL stands (R173): none applied, waiting for its reply to be sent or dropped, or due. -/
inductive ResetWait where
  | none | reply | due
deriving DecidableEq, Repr

structure Handler where
  current : Option Held
  reset   : ResetWait
deriving DecidableEq, Repr

inductive ResetCause where
  | powerOn | resetPin | unitAll | unitTables
deriving DecidableEq, Repr

structure UnitInfo where
  cause  : ResetCause
  uptime : Nat
deriving DecidableEq, Repr

/-! ### The whole part -/

/-- The state of the part: its blocks, the queue of waiting commands, and what the model itself keeps of a tick that has reached
some blocks ahead of its INTERNAL_TICK or SUB_TICK (log 3). -/
structure State where
  table     : Table
  batch     : BatchStage
  sup       : Supervisor
  clock     : Clock
  board     : Board
  overlays  : Overlays
  phrases   : List Phrase
  fonts     : Fonts
  coder     : Coder
  chain     : Chain
  light     : Light
  line      : Line
  handler   : Handler
  unit      : UnitInfo
  notices   : Notices
  tickTaken : List TickBlock
  subTaken  : Bool
  pending   : List Instr
deriving DecidableEq, Repr

/-- No behaviour of the part stops it with a fault: a bad request is refused with a result code and a bad frame or packet is
dropped, and the part goes on (R158, R161, R169, R179). So there is no fault. -/
inductive Fault where
deriving DecidableEq, Repr

/-- Why a command has no next state. -/
inductive Refusal where
  /-- The command has no meaning in this model yet: raised by a refused arm of `exec`. Safe. -/
  | notModelled (mnemonic : String)
deriving DecidableEq, Repr

/-! ### The state after power-on -/

def Table.init : Table := { records := [], retireAfter := 120 }

def BatchStage.init : BatchStage := { stage := none, g := 5, w := 30 }

def Supervisor.init : Supervisor :=
  { state := .disarmed, period := 60, action := .predictionsOff, hold := .run, remaining := 0 }

def Clock.init : Clock :=
  { state := .unset, day := 0, value := 0, slew := 0, agree := 0, age := 0, k := 2, tol := 2, coastAfter := 120, lapseAfter := 1800,
    held := false }

def Countdown.init : Countdown :=
  { due := 30, bias := 30, maxMin := 30, rise := 2, suffix := 1001, duePh := 1002, cancelled := 1003, delayed := 1004, held := 1005 }

def Pages.none : Pages := ⟨.none, .none, .none, .none⟩

def Board.init : Board :=
  { mode := .unconfigured, width := 0, height := 0, panelCount := 0, places := Per8.all none, pages := Pages.none, current := none,
    dwell := 0, lines := none, canvas := [], pending := false, allowed := false, countdown := Countdown.init, kept := [],
    rendered := false }

def Overlays.init : Overlays := { records := [], shownSince := 0 }

def Fonts.init : Fonts := ⟨none, none, none⟩

/-- Entry 0 black, entries 1-15 white (Table 8-1). -/
def Coder.init : Coder :=
  { state := .idle, number := 0, dirty := Per8.all false, palDirty := Per8.all false,
    palette := ⟨0#8, 0#8, 0#8⟩ :: List.replicate 15 ⟨255#8, 255#8, 255#8⟩, record := none, stripes := [] }

def PanelRecord.init : PanelRecord := { state := .absent, fails := 0, naks := 0, timeouts := 0 }

def Chain.init : Chain :=
  { recs := Per8.all PanelRecord.init, count := 0, found := 0, work := .idle, probeCount := 0, roundDue := false, retryLimit := 3,
    faultAfter := 3, probeEvery := 10, out := none }

def Light.init : Light :=
  { gate := 0, last := 0, sensor := .ok, zeroRun := 0, target := 128, goal := 128, applied := 128, mode := .auto, fixed := 128,
    hyst := 4, slew := 8, bmin := 8, bmax := 255,
    curve := [⟨0, 16⟩, ⟨200, 32⟩, ⟨1000, 80⟩, ⟨4000, 160⟩, ⟨12000, 230⟩, ⟨30000, 255⟩] }

def Enables.all : Enables := ⟨true, true, true, true, true, true, true, true, true⟩

def Notices.init : Notices := { queue := [], enables := Enables.all, overflow := false, serial := 0, overflowSets := 0 }

def Line.init (straps : Straps) : Line :=
  { straps := straps, rx := .hunt, slots := ⟨none, none, none⟩, nextStamp := 0, groupA := none, groupB := none, mode := .normal,
    waiting := [], sending := none, trunc := 0, crc := 0, busy := 0, breakOn := false, resetRaised := false, seq := 0 }

def Handler.init : Handler := { current := none, reset := .none }

/-- Every block at its power-on state, with the straps read, the reset cause and the queue of waiting commands given. -/
def State.fresh (straps : Straps) (cause : ResetCause) (pending : List Instr) : State :=
  { table := Table.init, batch := BatchStage.init, sup := Supervisor.init, clock := Clock.init, board := Board.init,
    overlays := Overlays.init, phrases := [], fonts := Fonts.init, coder := Coder.init, chain := Chain.init, light := Light.init,
    line := Line.init straps, handler := Handler.init, unit := { cause := cause, uptime := 0 }, notices := Notices.init,
    tickTaken := [], subTaken := false, pending := pending }

/-- The part right after power-on, with all strap pins low (log 1) and no command waiting. -/
def State.reset : State := State.fresh ⟨0#2, false, 0#6⟩ .powerOn []

/-- The outcome of one command. -/
abbrev Result := Host.Outcome State Fault Refusal

end Sys2Proof.Machine
end

