-- ==== Sys2Proof/Machine/Formats.lean ====
section
/-! DEFINITION. The byte layouts of spec/13: field encoding (R178), the CRC (R161), enumeration codes (Table 13-3), chain packets (Tables 13-9 to 13-11) and the characters of the signline (R155). -/

namespace Sys2Proof.Machine

open Sys2Proof

/-! ### Number fields (R178) -/

def num1 (n : Nat) : List Byte := [BitVec.ofNat 8 n]
def num2 (n : Nat) : List Byte := bytes16 (BitVec.ofNat 16 n)
def num3 (n : Nat) : List Byte := bytes24 (BitVec.ofNat 24 n)
def num4 (n : Nat) : List Byte := bytes16 (BitVec.ofNat 16 (n / 65536)) ++ bytes16 (BitVec.ofNat 16 n)

/-- A signed value: two bytes in two's complement. -/
def signed2 (i : Int) : List Byte := bytes16 (BitVec.ofInt 16 i)

/-- A flag: 0 for clear and 1 for set. -/
def flag1 (b : Bool) : List Byte := [if b then 1#8 else 0#8]

/-- A value sent as 0 when it is none (Table 13-4). -/
def orZero (o : Option Nat) : Nat := o.getD 0

/-- A panel set as a mask, position p at bit p − 1. -/
def posMask (s : PosSet) : Byte :=
  BitVec.ofNat 8 (Pos.all.foldl (fun m p => if s.get p then m + 2 ^ p.val else m) 0)

/-! ### Enumerations, numbered from 0 in the order of Table 13-3 -/

def resultByte : ResultCode → Byte
  | .done => 0#8 | .busy => 1#8 | .badLength => 2#8 | .badField => 3#8 | .unknownKind => 4#8 | .wrongMode => 5#8
  | .notFound => 6#8 | .noSpace => 7#8 | .tableFull => 8#8 | .noBatch => 9#8 | .tagMismatch => 10#8

def statusByte : Status → Byte
  | .normal => 0#8 | .delayed => 1#8 | .cancelled => 2#8 | .held => 3#8

def formByte : TimeForm → Byte
  | .minutes => 0#8 | .due => 1#8 | .clock => 2#8 | .status => 3#8 | .empty => 4#8

def supStateByte : SupState → Byte
  | .disarmed => 0#8 | .armed => 1#8 | .expired => 2#8

def supActionByte : SupAction → Byte
  | .predictionsOff => 0#8 | .blankTimes => 1#8 | .noticeOnly => 2#8

def holdByte : HoldBehaviour → Byte
  | .run => 0#8 | .pause => 1#8

def clockStateByte : ClockState → Byte
  | .unset => 0#8 | .acquiring => 1#8 | .locked => 2#8 | .coasting => 3#8 | .lapsed => 4#8

def boardModeByte : BoardMode → Byte
  | .unconfigured => 0#8 | .enumerating => 1#8 | .blank => 2#8 | .run => 3#8 | .test => 4#8 | .hold => 5#8

def frameStateByte : FrameState → Byte
  | .idle => 0#8 | .coding => 1#8 | .delivering => 2#8

def panelStateByte : PanelState → Byte
  | .absent => 0#8 | .active => 1#8 | .failing => 2#8 | .faulted => 3#8

def brightModeByte : BrightMode → Byte
  | .auto => 0#8 | .fixed => 1#8

def sensorByte : SensorState → Byte
  | .ok => 0#8 | .silent => 1#8 | .saturated => 2#8

def resetCauseByte : ResetCause → Byte
  | .powerOn => 0#8 | .resetPin => 1#8 | .unitAll => 2#8 | .unitTables => 3#8

def replyModeByte : ReplyMode → Byte
  | .normal => 0#8 | .suppressed => 1#8

def lineKindByte : LineKind → Byte
  | .departure .. => 0#8 | .clock .. => 1#8 | .phrase .. => 2#8 | .band .. => 3#8

/-! ### The CRC (R161) -/

def crcShift (r : BitVec 16) : BitVec 16 := if r.msb then (r <<< 1) ^^^ 0x1021#16 else r <<< 1

def crcByte (r : BitVec 16) (b : Byte) : BitVec 16 :=
  let x := r ^^^ (b ++ 0#8)
  crcShift (crcShift (crcShift (crcShift (crcShift (crcShift (crcShift (crcShift x)))))))

/-- The CRC over characters in order: the register starts as all ones and has no final inversion (R161). -/
def crc16 (bs : List Byte) : BitVec 16 := bs.foldl crcByte 0xFFFF#16

/-! ### The signline (R155, R163, Table 13-1) -/

/-- The sync character. -/
def syncByte : Byte := 0xC3#8

/-- The reply marker (R178). -/
def replyMarker : Byte := 0x80#8

/-- The characters of a frame: sync, destination, kind, tag, length, payload and CRC. -/
def frameBytes (dest kind tag : Byte) (payload : List Byte) : List Byte :=
  let body := [dest, kind, tag, countByte payload.length] ++ payload
  syncByte :: (body ++ bytes16 (crc16 body))

/-- The characters of a reply (R163). -/
def replyBytes (r : Reply) : List Byte := frameBytes r.dest (r.kind + replyMarker) r.tag r.payload

/-- The even parity bit of a character: it makes the number of 1 bits even (R155). -/
def parityBit (b : Byte) : Bool :=
  b.getLsbD 0 ^^ b.getLsbD 1 ^^ b.getLsbD 2 ^^ b.getLsbD 3 ^^ b.getLsbD 4 ^^ b.getLsbD 5 ^^ b.getLsbD 6 ^^ b.getLsbD 7

/-- The line levels of a character: start bit low, data least significant bit first, parity if strapped, stop bit high (R155). -/
def charBits (st : Straps) (b : Byte) : List Bool :=
  false :: ((List.range 8).map b.getLsbD ++ (if st.parity then [parityBit b] else []) ++ [true])

/-- The strapped baud rate (Table 11-1). -/
def baudRate (st : Straps) : Nat :=
  match st.baud.toNat with
  | 0 => 19200
  | 1 => 38400
  | 2 => 57600
  | _ => 115200

/-- The unit address 1-62, or none for straps 0 and 63 (Table 11-1). -/
def unitAddress (st : Straps) : Option Nat :=
  let a := st.addr.toNat
  if a = 0 ∨ a = 63 then none else some a

/-! ### Chain packets (Tables 13-9 and 13-10) -/

def posByte (p : Pos) : Byte := BitVec.ofNat 8 p.num

def rgbBytes (c : RGB) : List Byte := [c.r, c.g, c.b]

def packetKind : Packet → Byte
  | .enumerate _ => 0x01#8 | .palette .. => 0x02#8 | .stripe .. => 0x03#8 | .show_ .. => 0x04#8
  | .probe _ => 0x05#8 | .dark => 0x06#8 | .ack _ => 0x81#8 | .nak _ => 0x82#8

def packetBody : Packet → List Byte
  | .enumerate n => [n]
  | .palette f p d => [f, posByte p] ++ d.flatMap rgbBytes
  | .stripe f p n rows => [f, posByte p, n] ++ rows.flatten
  | .show_ f set => [f, posMask set]
  | .probe p => [posByte p]
  | .dark => []
  | .ack p => [posByte p]
  | .nak p => [posByte p]

/-- A packet as bytes: kind, body length, body, and the check over all of them. -/
def packetBytes (p : Packet) : List Byte :=
  let head := packetKind p :: (bytes16 (BitVec.ofNat 16 (packetBody p).length) ++ packetBody p)
  head ++ bytes16 (crc16 head)

/-- The one-byte body of a packet of this kind, if the bytes are such a packet and its check holds (R179). -/
def singleBody (kind : Byte) (raw : List Byte) : Option Byte :=
  match raw with
  | [k, l1, l0, b, c1, c0] =>
    if k = kind ∧ be16 l1 l0 = 1#16 ∧ be16 c1 c0 = crc16 [k, l1, l0, b] then some b else none
  | _ => none

/-- The bytes are an ACK from the addressed position (R179). -/
def isAckFrom (p : Pos) (raw : List Byte) : Bool := singleBody 0x81#8 raw == some (posByte p)

/-- The bytes are a NAK from the addressed position (R179). -/
def isNakFrom (p : Pos) (raw : List Byte) : Bool := singleBody 0x82#8 raw == some (posByte p)

/-! ### The coded row (R124, R125, Table 13-11) -/

/-- The pieces of a row: runs of one index cut at 16, left to right, with `cur` the piece being gathered and `n` its length. -/
def rowUnitsFrom (cur : Pixel) (n : Nat) : List Pixel → List (Pixel × Nat)
  | [] => [(cur, n)]
  | p :: ps => if p = cur ∧ n < 16 then rowUnitsFrom cur (n + 1) ps else (cur, n) :: rowUnitsFrom p 1 ps

/-- The units of a row (R124). -/
def rowUnits : List Pixel → List (Pixel × Nat)
  | [] => []
  | p :: ps => rowUnitsFrom p 1 ps

/-- A unit: the palette index in the high four bits and length − 1 in the low four. -/
def unitByte (u : Pixel × Nat) : Byte := u.1 ++ BitVec.ofNat 4 (u.2 - 1)

/-- Two pixels to a byte, the left one in the high four bits. -/
def packPixels : List Pixel → List Byte
  | a :: b :: rest => (a ++ b) :: packPixels rest
  | _ => []

/-- A coded row: RUN form when u ≤ W/2 − 1, LITERAL form otherwise (R125). -/
def codeRow (row : List Pixel) : List Byte :=
  let us := rowUnits row
  if us.length ≤ row.length / 2 - 1 then 0x00#8 :: countByte us.length :: us.map unitByte else 0x01#8 :: packPixels row

/-- The row at order position `i` for height `h` and scan ratio `k` (R122). -/
def scanRow (h k i : Nat) : Nat := i / (h / k) + k * (i % (h / k))

/-- The canvas rows of stripe `n`, in scan order (R123). -/
def stripeRows (g : Placement) (n : Nat) : List Nat := (List.range 8).map fun j => scanRow g.height g.scan (8 * n + j)

/-- The pixels of row `r` of a region of the canvas (R122). -/
def regionRow (c : Canvas) (g : Placement) (r : Nat) : List Pixel := ((c.getD (g.y + r) []).drop g.x).take g.width

/-- Stripe `n` of a region, each row coded (R123). -/
def codeStripe (c : Canvas) (p : Pos) (g : Placement) (n : Nat) : Stripe :=
  { pos := p, number := n, rows := (stripeRows g n).map fun r => codeRow (regionRow c g r) }

/-! ### Drive levels (R127, R128) -/

/-- The drive level of a component `c` at brightness `b` through gain `g` (R127). -/
def driveLevel (c b g : Nat) : Nat := min 255 ((c * b * g + 16320) / 32640)

/-- One entry's drive levels through a panel's gains. -/
def driveEntry (b : Nat) (g : Placement) (c : RGB) : RGB :=
  ⟨BitVec.ofNat 8 (driveLevel c.r.toNat b g.gainR), BitVec.ofNat 8 (driveLevel c.g.toNat b g.gainG),
    BitVec.ofNat 8 (driveLevel c.b.toNat b g.gainB)⟩

/-- A panel's table of drive levels; every level is 0 when the board is BLANK at the frame's start (R128). -/
def driveTable (blank : Bool) (palette : List RGB) (b : Nat) (g : Placement) : List RGB :=
  palette.map fun c => if blank then ⟨0#8, 0#8, 0#8⟩ else driveEntry b g c

end Sys2Proof.Machine
end

