-- ==== Sys2Proof/Machine/Flags.lean ====
section
/-! DEFINITION. The event flags of the part: the notices, their classes and codes (R174, Table 12-4), the class enables and the overflow flag. -/

namespace Sys2Proof.Machine

open Sys2Proof

/-- The notices the part raises (Table 12-4). -/
inductive NoticeKind where
  | lineLinkReset | lineSlotOverrun
  | clockLocked | clockStepped | clockCoasting | clockLapsed | clockDayChanged
  | tableTrimmed
  | batchSuperseded | batchWindow | batchLinkReset
  | supExpired | supRestored
  | panelBoardReady | panelExtra | panelFaulted | panelRecovered
  | overlayDisplaced | overlayExpired
  | lightSilent | lightSaturated | lightOk
  | refusal (code : ResultCode)
deriving DecidableEq, Repr

/-- A notice's class (Table 12-4). -/
def noticeClass : NoticeKind → NoticeClass
  | .lineLinkReset | .lineSlotOverrun => .line
  | .clockLocked | .clockStepped | .clockCoasting | .clockLapsed | .clockDayChanged => .clock
  | .tableTrimmed => .table
  | .batchSuperseded | .batchWindow | .batchLinkReset => .batch
  | .supExpired | .supRestored => .supervisor
  | .panelBoardReady | .panelExtra | .panelFaulted | .panelRecovered => .panel
  | .overlayDisplaced | .overlayExpired => .overlay
  | .lightSilent | .lightSaturated | .lightOk => .light
  | .refusal _ => .refusal

/-- A notice's code: numbered from 0 in the order of Table 12-4; a refusal's is its result code (spec/13 section 13.2). -/
def noticeCode : NoticeKind → Nat
  | .lineLinkReset => 0 | .lineSlotOverrun => 1
  | .clockLocked => 0 | .clockStepped => 1 | .clockCoasting => 2 | .clockLapsed => 3 | .clockDayChanged => 4
  | .tableTrimmed => 0
  | .batchSuperseded => 0 | .batchWindow => 1 | .batchLinkReset => 2
  | .supExpired => 0 | .supRestored => 1
  | .panelBoardReady => 0 | .panelExtra => 1 | .panelFaulted => 2 | .panelRecovered => 3
  | .overlayDisplaced => 0 | .overlayExpired => 1
  | .lightSilent => 0 | .lightSaturated => 1 | .lightOk => 2
  | .refusal c => (resultByte c).toNat

/-- A class's number, which is its bit in a class set (Table 12-4, R178). -/
def classNum : NoticeClass → Nat
  | .line => 0 | .clock => 1 | .table => 2 | .batch => 3 | .supervisor => 4 | .panel => 5 | .overlay => 6 | .light => 7 | .refusal => 8

def enableOf (e : Enables) : NoticeClass → Bool
  | .line => e.line | .clock => e.clock | .table => e.table | .batch => e.batch | .supervisor => e.supervisor
  | .panel => e.panel | .overlay => e.overlay | .light => e.light | .refusal => e.refusal

/-- The enables with one class's enable cleared. -/
def mute (e : Enables) : NoticeClass → Enables
  | .line => { e with line := false }
  | .clock => { e with clock := false }
  | .table => { e with table := false }
  | .batch => { e with batch := false }
  | .supervisor => { e with supervisor := false }
  | .panel => { e with panel := false }
  | .overlay => { e with overlay := false }
  | .light => { e with light := false }
  | .refusal => { e with refusal := false }

/-- The enables with those of a class set added (R175). -/
def enableSet (e : Enables) (m : BitVec 16) : Enables :=
  { line := e.line || m.getLsbD 0, clock := e.clock || m.getLsbD 1, table := e.table || m.getLsbD 2, batch := e.batch || m.getLsbD 3,
    supervisor := e.supervisor || m.getLsbD 4, panel := e.panel || m.getLsbD 5, overlay := e.overlay || m.getLsbD 6,
    light := e.light || m.getLsbD 7, refusal := e.refusal || m.getLsbD 8 }

/-- The enables as a class set (R178). -/
def enableMask (e : Enables) : Nat :=
  [(e.line, 1), (e.clock, 2), (e.table, 4), (e.batch, 8), (e.supervisor, 16), (e.panel, 32), (e.overlay, 64), (e.light, 128),
    (e.refusal, 256)].foldl (fun m b => if b.1 then m + b.2 else m) 0

/-- The most notices the queue holds (R174). -/
def maxNotices : Nat := 8

/-- The queue takes an offer (R174): a muted class discards it, a queue with room queues it and mutes its class, and a full queue
sets the overflow flag. -/
def offerTo (q : Notices) (k : NoticeKind) (arg uptime : Nat) : Notices :=
  if enableOf q.enables (noticeClass k) = false then q
  else if q.queue.length < maxNotices then
    { q with
      queue := q.queue ++
        [{ serial := q.serial, cls := noticeClass k, code := noticeCode k, arg := arg, stamp := uptime % 65536 }],
      enables := mute q.enables (noticeClass k),
      serial := q.serial + 1 }
  else { q with overflow := true, overflowSets := q.overflowSets + 1 }

/-- A block offers a notice within an event (R174). -/
def offer (k : NoticeKind) (arg : Nat) (s : State) : State :=
  { s with notices := offerTo s.notices k arg s.unit.uptime }

/-- Offers made within one event, in order (R174). -/
def offerAll (ks : List (NoticeKind × Nat)) (s : State) : State := ks.foldl (fun s k => offer k.1 k.2 s) s

end Sys2Proof.Machine
end

