-- ==== Sys2Proof/Machine/Operands.lean ====
section
/-! DEFINITION. The field checks of the requests that carry records: a value out of its range gives none, and the owning rule refuses it with BAD_FIELD (R178). -/

namespace Sys2Proof.Machine

open Sys2Proof

/-- A flag byte is 0 or 1 (R178). -/
def readFlag (b : Byte) : Option Bool := if b = 0#8 then some false else if b = 1#8 then some true else none

def readStatus (b : Byte) : Option Status :=
  match b.toNat with
  | 0 => some .normal | 1 => some .delayed | 2 => some .cancelled | 3 => some .held
  | _ => none

def readAction (b : Byte) : Option SupAction :=
  match b.toNat with
  | 0 => some .predictionsOff | 1 => some .blankTimes | 2 => some .noticeOnly
  | _ => none

def readHold (b : Byte) : Option HoldBehaviour :=
  match b.toNat with
  | 0 => some .run | 1 => some .pause
  | _ => none

def readAlign (b : Byte) : Option Align :=
  match b.toNat with
  | 0 => some .left | 1 => some .right | 2 => some .centre
  | _ => none

def readFormat (b : Byte) : Option ClockFormat :=
  match b.toNat with
  | 0 => some .hhmm | 1 => some .hhmmss
  | _ => none

def readScope (b : Byte) : Option Scope :=
  match b.toNat with
  | 0 => some .band | 1 => some .full
  | _ => none

def readPresentation (b : Byte) : Option Presentation :=
  match b.toNat with
  | 0 => some .still | 1 => some .scroll
  | _ => none

def readBrightMode (b : Byte) : Option BrightMode :=
  match b.toNat with
  | 0 => some .auto | 1 => some .fixed
  | _ => none

/-- The four modes SET_MODE may name (R57). -/
def readMode (b : Byte) : Option BoardMode :=
  match b.toNat with
  | 2 => some .blank | 3 => some .run | 4 => some .test | 5 => some .hold
  | _ => none

/-- A phrase id 1-1023. -/
def phraseIdOk (n : Nat) : Bool := decide (1 ≤ n ∧ n ≤ 1023)

/-- The last second of the service day (spec/00 section 4.3). -/
def maxSeconds : Nat := 107999

/-- The code of an absent predicted time or clock time (Table 13-4). -/
def absentTime : Nat := 0xFFFFFF

/-- A predicted time: absent, or within the service day. -/
def readPredicted (n : Nat) : Option (Option Nat) :=
  if n = absentTime then some none else if n ≤ maxSeconds then some (some n) else none

/-- The departure record of PUT_DEPARTURE, when every field lies within its range in Table 1-1 (R21). -/
def readDepartureRecord (d : RawDeparture) : Option Departure :=
  match readPredicted d.predicted.toNat, readStatus d.status with
  | some p, some st =>
    if d.trip ≠ 0#16 ∧ 1 ≤ d.platform.toNat ∧ d.platform.toNat ≤ 16 ∧ phraseIdOk d.linePh.toNat = true ∧ phraseIdOk d.destPh.toNat = true
        ∧ d.scheduled.toNat ≤ maxSeconds then
      some { trip := d.trip.toNat, platform := d.platform.toNat, linePh := d.linePh.toNat, destPh := d.destPh.toNat,
             scheduled := d.scheduled.toNat, predicted := p, status := st }
    else none
  | _, _ => none

def readField (f : RawField) : Field := { x := f.x.toNat, width := f.width.toNat }

/-- A present field lies within the line's width; an absent one is exempt (Table 4-3). -/
def fieldFits (width : Nat) (f : Field) : Bool := f.width == 0 || decide (f.x + f.width ≤ width)

/-- Two present fields share no column (Table 4-3). -/
def fieldsApart (a b : Field) : Bool :=
  a.width == 0 || b.width == 0 || decide (a.x + a.width ≤ b.x) || decide (b.x + b.width ≤ a.x)

/-- The kind and its fields, when the checks of Table 4-3 hold (R62). -/
def readBody (width : Nat) : RawBody → Option LineKind
  | .departure f r c a b t =>
    let a := readField a
    let b := readField b
    let t := readField t
    match readFlag c with
    | some c =>
      if 1 ≤ r.toNat ∧ r.toNat ≤ 8 ∧ fieldFits width a = true ∧ fieldFits width b = true ∧ fieldFits width t = true
          ∧ fieldsApart a b = true ∧ fieldsApart a t = true ∧ fieldsApart b t = true then
        some (.departure f r.toNat c a b t)
      else none
    | none => none
  | .clock f a =>
    match readFormat f, readAlign a with
    | some f, some a => some (.clock f a)
    | _, _ => none
  | .phrase i a =>
    match readAlign a with
    | some a => if phraseIdOk i.toNat = true then some (.phrase i.toNat a) else none
    | none => none
  | .band i => if phraseIdOk i.toNat = true then some (.band i.toNat) else none
  | .other _ => none

/-- A line definition on a canvas of this size, when its own checks of R61 and R62 hold. -/
def readLine (cw ch : Nat) (l : RawLine) : Option LineDef :=
  match readBody l.width.toNat l.body with
  | some k =>
    if l.height ≠ 0#8 ∧ l.width ≠ 0#16 ∧ l.x.toNat + l.width.toNat ≤ cw ∧ l.y.toNat + l.height.toNat ≤ ch ∧ l.font.toNat ≤ 3
        ∧ l.fg.toNat ≤ 15 ∧ l.bg.toNat ≤ 15 then
      some { y := l.y.toNat, height := l.height.toNat, x := l.x.toNat, width := l.width.toNat, font := l.font.toNat,
             fg := l.fg.setWidth 4, bg := l.bg.setWidth 4, kind := k }
    else none
  | none => none

/-- Every line of a list, when each passes. -/
def readLines (cw ch : Nat) : List RawLine → Option (List LineDef)
  | [] => some []
  | l :: ls =>
    match readLine cw ch l, readLines cw ch ls with
    | some d, some ds => some (d :: ds)
    | _, _ => none

/-- Two lines overlap vertically: some row lies within both (R61). -/
def rowsApart (a b : LineDef) : Bool := decide (a.y + a.height ≤ b.y) || decide (b.y + b.height ≤ a.y)

/-- No two lines of the list overlap vertically (R61). -/
def linesApart : List LineDef → Bool
  | [] => true
  | l :: ls => ls.all (rowsApart l) && linesApart ls

/-- The overlay record of PUSH_OVERLAY, when the checks of R90 hold; its speed is clamped. -/
def readOverlay (o : RawOverlay) : Option Overlay :=
  match readScope o.scope, readPresentation o.present with
  | some sc, some pr =>
    if o.id ≠ 0#8 ∧ phraseIdOk o.phrase.toNat = true then
      some { id := o.id.toNat, scope := sc, phrase := o.phrase.toNat, present := pr, speed := clampTo 8 64 o.speed.toNat,
             remaining := o.remaining.toNat }
    else none
  | _, _ => none

/-- The countdown settings, every value clamped into its range in Table 5-1 (R72). -/
def readCountdown (c : RawCountdown) : Countdown :=
  { due := clampTo 0 120 c.due.toNat, bias := clampTo 0 59 c.bias.toNat, maxMin := clampTo 1 99 c.maxMin.toNat,
    rise := clampTo 1 8 c.rise.toNat, suffix := clampTo 1 1023 c.suffix.toNat, duePh := clampTo 1 1023 c.duePh.toNat,
    cancelled := clampTo 1 1023 c.cancelled.toNat, delayed := clampTo 1 1023 c.delayed.toNat, held := clampTo 1 1023 c.held.toNat }

/-- A group address field: 0 for none, or 64 to 126 (R157). -/
def readGroup (b : Byte) : Option (Option Nat) :=
  if b = 0#8 then some none else if 64 ≤ b.toNat ∧ b.toNat ≤ 126 then some (some b.toNat) else none

/-- The curve of SET_LIGHT_CURVE, when its C values are strictly ascending (R151). -/
def readCurve (q : RawCurve) : Option (List Point) :=
  let c := fun (p : RawPoint) => p.c.toNat
  if c q.q0 < c q.q1 ∧ c q.q1 < c q.q2 ∧ c q.q2 < c q.q3 ∧ c q.q3 < c q.q4 ∧ c q.q4 < c q.q5 then
    some ([q.q0, q.q1, q.q2, q.q3, q.q4, q.q5].map fun p => { c := p.c.toNat, b := p.b.toNat })
  else none

end Sys2Proof.Machine
end

