-- ==== Sys2Proof/Machine/Ops.lean ====
section
/-! DEFINITION. Operations every request shares: how the Request Handler admits an application (R168), how its reply is built, handed over or dropped (R163 to R165, R170, R173), and how notices report refusals. -/

namespace Sys2Proof.Machine

open Sys2Proof

/-- What an owning rule gives a request: DONE with the fields after the result code and what its sending will act on, or a
refusal (R169). -/
inductive Answer where
  | done (fields : List Byte) (carried : Carried)
  | refused (code : ResultCode)
deriving DecidableEq, Repr

/-- DONE with these fields, whose sending acts on nothing. -/
def done (fields : List Byte) : Answer := .done fields .nothing

/-- The payload of a reply: the result code, then the fields (R163). -/
def answerPayload : Answer → List Byte
  | .done fields _ => resultByte .done :: fields
  | .refused code => [resultByte code]

def answerCarried : Answer → Carried
  | .done _ c => c
  | .refused _ => .nothing

/-- A reply that will not be sent. When it answers RESET_UNIT ALL, the reset becomes due (R173). -/
def dropReply (c : Carried) (s : State) : State :=
  match c with
  | .reset => { s with handler := { s.handler with reset := .due } }
  | _ => s

/-- Every reply of a list is dropped. -/
def dropReplies (rs : List Reply) (s : State) : State := rs.foldl (fun s r => dropReply r.carried s) s

/-- A reply takes its place among those waiting by the completion of the frame it answers (R164). -/
def insertReply (r : Reply) : List Reply → List Reply
  | [] => [r]
  | q :: qs => if r.seq < q.seq then r :: q :: qs else q :: insertReply r qs

/-- The most replies that wait to start: those of the three slots, of the request held, and three BUSY ones (R164, Table 11-2). -/
def maxWaiting : Nat := 7

/-- The replies waiting become `rs`. Where those are more than there can be, the window of the first has closed by then, so it is
withheld (R164, log 11). -/
def setWaiting (rs : List Reply) (s : State) : State :=
  match rs with
  | [] => { s with line := { s.line with waiting := [] } }
  | r :: rest =>
    if rest.length < maxWaiting then { s with line := { s.line with waiting := r :: rest } }
    else dropReply r.carried { s with line := { s.line with waiting := rest } }

/-- The Signline Interface takes a reply (R163 to R165): it is discarded in SUPPRESSED and when a link reset has been raised since
its frame arrived (R160), and otherwise joins those waiting. -/
def handOver (lost : Bool) (r : Reply) (s : State) : State :=
  if lost = true ∨ s.line.mode = .suppressed then dropReply r.carried s else setWaiting (insertReply r s.line.waiting) s

/-- The reply to a request of this kind and tag, from a part with these straps. -/
def buildReply (s : State) (seq : Nat) (kind tag : Byte) (a : Answer) : Reply :=
  { seq := seq, dest := BitVec.ofNat 8 (orZero (unitAddress s.line.straps)), kind := kind, tag := tag, payload := answerPayload a,
    carried := answerCarried a }

/-- The end of a request (R163, R170): a unit-addressed one gets its reply. A group or broadcast one gets none, and one that was
refused offers REFUSAL with its code and the request's kind. -/
def finish (v : Via) (kind : Byte) (seq : Nat) (lost : Bool) (a : Answer) (s : State) : State :=
  match v.addressing with
  | .unit => handOver lost (buildReply s seq kind v.tag a) s
  | _ =>
    match a with
    | .done _ c => dropReply c s
    | .refused code => offer (.refusal code) kind.toNat s

/-- An admitted application: the number of its frame's completion, whether a link reset has cut off its reply, and the state with
no request held. -/
structure Admitted where
  seq   : Nat
  lost  : Bool
  state : State
deriving DecidableEq, Repr

/-- A frame with this addressing can reach the part: UNIT when it has a unit address, GROUP when it holds a group address, and
BROADCAST always (R156). -/
def reaches (l : Line) : Addressing → Bool
  | .unit => (unitAddress l.straps).isSome
  | .group => l.groupA.isSome || l.groupB.isSome
  | .broadcast => true

/-- Whether the application of request `c` can take place (R168, logs 8 and 9). While a RESET_UNIT ALL waits, no request is taken
(R173). A held request is the only one that can be applied. With none held, the command stands for a request taken before, whose
addressing must be one that a frame kept by the part can have (R156). -/
def admission (c : Instr) (s : State) : Option Admitted :=
  match s.handler.reset, s.handler.current with
  | .none, none =>
    if (requestVia c).all (fun v => reaches s.line v.addressing) = true then
      some { seq := s.line.seq, lost := false, state := { s with line := { s.line with seq := s.line.seq + 1 } } }
    else none
  | .none, some h =>
    if decodeRequest ⟨h.slot.addressing, h.slot.tag⟩ h.slot.kind h.slot.payload = .request c then
      some { seq := h.slot.seq, lost := h.lost, state := { s with handler := { s.handler with current := none } } }
    else none
  | _, _ => none

/-- The application of a request by its owning rule `body`, as one event (R168). -/
def request (v : Via) (c : Instr) (body : State → State × Answer) (s : State) : Result :=
  match admission c s with
  | none => .next s
  | some a => .next (finish v (requestKind c) a.seq a.lost (body a.state).2 (body a.state).1)

/-- The application of a reading request: answered when unit-addressed, ignored otherwise (R170). It changes no state but the
handler's own. -/
def reading (v : Via) (c : Instr) (report : State → Answer) (s : State) : Result :=
  match admission c s with
  | none => .next s
  | some a =>
    match v.addressing with
    | .unit => .next (finish v (requestKind c) a.seq a.lost (report a.state) a.state)
    | _ => .next a.state

end Sys2Proof.Machine
end

