-- ==== Sys2Proof/Machine/Table.lean ====
section
/-! DEFINITION. The Departure Table (spec/01): the order of the live table, its five operations, retirement, and its requests. -/

namespace Sys2Proof.Machine

open Sys2Proof

/-- The most records the live table holds (R4). -/
def maxLive : Nat := 96

/-- The effective time E: the predicted time when present, else the scheduled time (R2). -/
def effective (d : Departure) : Nat := d.predicted.getD d.scheduled

/-- The order of the live table: ascending (E, trip id) (R5). -/
def comesBefore (a b : Departure) : Bool :=
  decide (effective a < effective b) || (effective a == effective b && decide (a.trip < b.trip))

/-- A newly inserted record: form EMPTY, shown minutes absent, rise count 0 (R3). -/
def fresh (d : Departure) : Live := { dep := d, form := .empty, shown := none, rise := 0 }

/-- The record of a trip id, if held. -/
def findTrip (trip : Nat) (rs : List Live) : Option Live := rs.find? fun r => r.dep.trip == trip

/-- Removing by trip id; an id that is not held leaves the table as it was (R8). -/
def removeTrip (trip : Nat) (rs : List Live) : List Live := rs.filter fun r => r.dep.trip != trip

/-- A record put at the position its (E, trip id) gives it (R5). -/
def insertLive (r : Live) : List Live → List Live
  | [] => [r]
  | q :: qs => if comesBefore r.dep q.dep = true then r :: q :: qs else q :: insertLive r qs

/-- The record a placed departure makes: the derived fields of the record it replaces are kept, a new one's are initial
(R6, R7). -/
def carryOver (old : List Live) (d : Departure) : Live :=
  match findTrip d.trip old with
  | some r => { r with dep := d }
  | none => fresh d

/-- Placing a record (R6, R7): the table after it, and the trip id of the record trimmed when 97 would be held. -/
def place (d : Departure) (rs : List Live) : List Live × Option Nat :=
  let all := insertLive (carryOver rs d) (removeTrip d.trip rs)
  if all.length ≤ maxLive then (all, none) else (all.dropLast, all.getLast?.map fun r => r.dep.trip)

/-- Replacing the whole table by a staged set (R9). -/
def replaceAll (staged : List Departure) (old : List Live) : List Live :=
  staged.foldr (fun d rs => insertLive (carryOver old d) rs) []

/-- One entry of a change list, applied to the table as the entries before it left it (R28). -/
def applyChange (c : Change) (rs : List Live) : List Live × Option Nat :=
  match c with
  | .put d => place d rs
  | .drop trip => (removeTrip trip rs, none)

/-- A change list applied entry by entry (R28): the table after it and the trip ids trimmed, in the order of the entries that made
them. -/
def applyChanges : List Change → List Live → List Live × List Nat
  | [], rs => (rs, [])
  | c :: cs, rs =>
    let one := applyChange c rs
    let rest := applyChanges cs one.1
    (rest.1, one.2.toList ++ rest.2)

/-- N, the clock in whole seconds (R38). -/
def seconds (c : Clock) : Nat := c.value / 16

/-- Retirement removes every record with E < N − RETIRE_AFTER (R11). -/
def retire (n margin : Nat) (rs : List Live) : List Live := rs.filter fun r => decide (n ≤ effective r.dep + margin)

/-- The Departure Table takes the internal tick (R11). -/
def tableTick (s : State) : State :=
  if s.clock.state = .unset then s
  else { s with table := { s.table with records := retire (seconds s.clock) s.table.retireAfter s.table.records } }

/-- The live table is cleared (R14, R15). -/
def clearTable (s : State) : State := { s with table := { s.table with records := [] } }

/-! ### Requests -/

/-- The 14 bytes of Table 13-6. -/
def departureBytes (d : Departure) : List Byte :=
  num2 d.trip ++ num1 d.platform ++ num2 d.linePh ++ num2 d.destPh ++ num3 d.scheduled ++ num3 (d.predicted.getD absentTime)
    ++ [statusByte d.status]

/-- A record's position: the number of records that stand before it (R5). -/
def positionOf (trip : Nat) (rs : List Live) : Nat := rs.findIdx fun r => r.dep.trip == trip

/-- READ_DEPARTURE(trip id) (R16). -/
def reportDeparture (trip : Nat) (s : State) : Answer :=
  if trip = 0 then .refused .badField
  else
    match findTrip trip s.table.records with
    | none => .refused .notFound
    | some r =>
      done (departureBytes r.dep ++ num1 (positionOf trip s.table.records) ++ [formByte r.form] ++ num1 (orZero r.shown) ++ num1 r.rise)

/-- LIST_DEPARTURES(start position): up to 16 trip ids from the position on, with the live count (R17). -/
def reportList (start : Nat) (s : State) : Answer :=
  if 95 < start then .refused .badField
  else
    done (num1 start ++ num1 s.table.records.length
      ++ ((s.table.records.drop start).take 16).flatMap fun r => num2 r.dep.trip)

/-- SET_RETIREMENT(margin) (R12). -/
def setRetirementBody (margin : Nat) (s : State) : State × Answer :=
  let m := clampTo 30 600 margin
  ({ s with table := { s.table with retireAfter := m } }, done (num2 m))

/-- READ_DEPARTURE (R16). -/
def execReadDeparture (v : Via) (trip : BitVec 16) (s : State) : Result :=
  reading v (.readDeparture v trip) (reportDeparture trip.toNat) s

/-- LIST_DEPARTURES (R17). -/
def execListDepartures (v : Via) (start : Byte) (s : State) : Result :=
  reading v (.listDepartures v start) (reportList start.toNat) s

/-- SET_RETIREMENT (R12). -/
def execSetRetirement (v : Via) (margin : BitVec 16) (s : State) : Result :=
  request v (.setRetirement v margin) (setRetirementBody margin.toNat) s

end Sys2Proof.Machine
end

