-- ==== Sys2Proof/Machine/Countdown.lean ====
section
/-! DEFINITION. The countdown evaluation (R73 to R77), the prediction permission (R50), the choice of a departure line's record (R80), and SET_COUNTDOWN (R72). -/

namespace Sys2Proof.Machine

open Sys2Proof

/-! ### The evaluation -/

/-- What one evaluation reads besides the record (spec/05 section 5.2): whether it is a tick evaluation, N, the permission, whether
BLANK_TIMES is in force, and the settings. -/
structure EvalContext where
  tick     : Bool
  n        : Nat
  allowed  : Bool
  blank    : Bool
  settings : Countdown
deriving DecidableEq, Repr

/-- A record given a form other than MINUTES: shown minutes absent, rise count 0 (R77). -/
def setForm (f : TimeForm) (r : Live) : Live := { r with form := f, shown := none, rise := 0 }

/-- The minutes of R75 step 2 for a remaining time of `r` seconds, r at least 1. -/
def minutesOf (bias r : Nat) : Nat := max 1 ((r + bias) / 60)

/-- A record given MINUTES form with the value `m` (R76). -/
def setMinutes (c : EvalContext) (m : Nat) (r : Live) : Live :=
  match r.shown with
  | none => { r with form := .minutes, shown := some m, rise := 0 }
  | some old =>
    if m ≤ old then { r with form := .minutes, shown := some m, rise := 0 }
    else if c.tick = false then { r with form := .minutes }
    else if c.settings.rise ≤ r.rise + 1 then { r with form := .minutes, shown := some m, rise := 0 }
    else { r with form := .minutes, rise := r.rise + 1 }

/-- Case 6 of Table 5-2, by the remaining time r = E − N (R75). -/
def evalRemaining (c : EvalContext) (r : Live) : Live :=
  let left : Int := (effective r.dep : Int) - c.n
  if left ≤ c.settings.due then setForm .due r
  else
    let m := minutesOf c.settings.bias left.toNat
    if c.settings.maxMin < m then setForm .clock r else setMinutes c m r

/-- The evaluation of one record: the first case of Table 5-2 whose condition holds (R74). -/
def evalRecord (c : EvalContext) (r : Live) : Live :=
  if r.dep.status = .cancelled ∨ r.dep.status = .held then setForm .status r
  else if c.blank = true then setForm .empty r
  else if c.allowed = false then setForm (if r.dep.status = .delayed then .status else .clock) r
  else if r.dep.status = .delayed ∧ r.dep.predicted = none then setForm .status r
  else evalRemaining c r

/-- BLANK_TIMES is in force: EXPIRED with that action stored (R36, R74). -/
def blankTimes (s : Supervisor) : Bool := s.state == .expired && s.action == .blankTimes

def evalContext (tick : Bool) (s : State) : EvalContext :=
  { tick := tick, n := seconds s.clock, allowed := s.board.allowed, blank := blankTimes s.sup, settings := s.board.countdown }

/-- Every record of the live table evaluated (R73). -/
def evaluate (tick : Bool) (s : State) : State :=
  { s with table := { s.table with records := s.table.records.map (evalRecord (evalContext tick s)) } }

/-! ### The prediction permission -/

/-- Predictions are allowed (R50). -/
def permission (s : State) : Bool :=
  (s.clock.state == .locked || s.clock.state == .coasting) && !(s.sup.state == .expired && s.sup.action == .predictionsOff)
    && s.board.mode != .unconfigured

/-- The composer recomputes the permission; a change runs a demand evaluation at once (R50, R73). -/
def recompute (s : State) : State :=
  if permission s = s.board.allowed then s
  else evaluate false { s with board := { s.board with allowed := permission s } }

/-! ### Departure lines -/

/-- Platform p is in the filter (R178: bit p − 1). -/
def inFilter (filter : BitVec 16) (platform : Nat) : Bool := decide (1 ≤ platform) && filter.getLsbD (platform - 1)

/-- A record is eligible for a departure line (R80). -/
def eligible (filter : BitVec 16) (showCancelled : Bool) (d : Departure) : Bool :=
  inFilter filter d.platform && (d.status != .cancelled || showCancelled)

/-- The rank-th eligible record in table order, rank 1 the first (R80). -/
def selectRecord (filter : BitVec 16) (rank : Nat) (showCancelled : Bool) (rs : List Live) : Option Live :=
  (rs.filter fun r => eligible filter showCancelled r.dep)[rank - 1]?

/-- The status phrase chosen by a record's status (R81). -/
def statusPhrase (c : Countdown) : Status → Nat
  | .cancelled => c.cancelled
  | .held => c.held
  | _ => c.delayed

/-- The time value of a departure line's record, by its time form (R81). -/
def timeValue (s : State) (r : Live) : TimeForm → TimeValue
  | .minutes => match r.shown with | some m => .minutes m s.board.countdown.suffix | none => .none
  | .due => .phrase s.board.countdown.duePh
  | .status => .phrase (statusPhrase s.board.countdown r.dep.status)
  | .clock => .time (if s.board.allowed = true then effective r.dep else r.dep.scheduled)
  | .empty => .none

/-- What a line's building gives its record (R66, R81, R86). -/
def buildContent (s : State) : LineKind → LineContent
  | .departure f rank sc _ _ _ =>
    match selectRecord f rank sc s.table.records with
    | none => .departure none .empty .none
    | some r =>
      let form := if blankTimes s.sup = true then TimeForm.empty else r.form
      .departure (some { trip := r.dep.trip, platform := r.dep.platform, linePh := r.dep.linePh, destPh := r.dep.destPh }) form
        (timeValue s r form)
  | .clock _ _ => .clock s.clock.state (if s.clock.state = .unset then none else some (seconds s.clock))
  | .phrase i _ => .phrase i
  | .band i => .band i

/-- The drawn phrase that a building gives (Table 4-5, R100). -/
def ownPhrase : LineContent → Option Nat
  | .departure sel _ _ => sel.map fun r => r.destPh
  | .clock _ _ => none
  | .phrase i => some i
  | .band i => some i

/-! ### SET_COUNTDOWN -/

/-- The derived display state cleared by SET_COUNTDOWN (R72). -/
def clearDerived (r : Live) : Live :=
  { r with form := if r.form = .minutes then .empty else r.form, shown := none, rise := 0 }

def countdownBytes (c : Countdown) : List Byte :=
  num1 c.due ++ num1 c.bias ++ num1 c.maxMin ++ num1 c.rise ++ num2 c.suffix ++ num2 c.duePh ++ num2 c.cancelled ++ num2 c.delayed
    ++ num2 c.held

/-- SET_COUNTDOWN (R72): the settings stored, the derived state cleared, and a demand evaluation in every mode but UNCONFIGURED. -/
def setCountdownBody (raw : RawCountdown) (s : State) : State × Answer :=
  let c := readCountdown raw
  let s1 := { s with board := { s.board with countdown := c }, table := { s.table with records := s.table.records.map clearDerived } }
  (if s.board.mode = .unconfigured then s1 else evaluate false s1, done (countdownBytes c))

/-- SET_COUNTDOWN (R72). -/
def execSetCountdown (v : Via) (c : RawCountdown) (s : State) : Result :=
  request v (.setCountdown v c) (setCountdownBody c) s

end Sys2Proof.Machine
end

