-- ==== Sys2Proof/Machine/Batch.lean ====
section
/-! DEFINITION. The Batch Stage and the Freshness Supervisor (spec/02). -/

namespace Sys2Proof.Machine

open Sys2Proof

def maxStaged : Nat := 96
def maxChanges : Nat := 48

/-! ### Staging (R22, R23) -/

/-- A departure put into the staged set, which is held in ascending order of trip id; it replaces one of the same trip id. -/
def putStaged (d : Departure) : List Departure → List Departure
  | [] => [d]
  | q :: qs => if d.trip < q.trip then d :: q :: qs else if d.trip = q.trip then d :: qs else q :: putStaged d qs

def changeTrip : Change → Nat
  | .put d => d.trip
  | .drop t => t

/-- An entry replaces, in its place, the entry of its trip id (R23). -/
def replaceChange (c : Change) (cs : List Change) : List Change := cs.map fun q => if changeTrip q = changeTrip c then c else q

/-- A PUT or a DROP staged (R22, R23); none when the collection is full. -/
def stageChange (c : Change) : Staged → Option Staged
  | .replace set =>
    match c with
    | .put d =>
      if set.any (fun q => q.trip == d.trip) = true ∨ set.length < maxStaged then some (.replace (putStaged d set)) else none
    | .drop t => some (.replace (set.filter fun q => q.trip != t))
  | .merge cs =>
    if cs.any (fun q => changeTrip q == changeTrip c) = true then some (.merge (replaceChange c cs))
    else if cs.length < maxChanges then some (.merge (cs ++ [c]))
    else none

/-- The number of staged records or entries. -/
def stagedCount : Staged → Nat
  | .replace set => set.length
  | .merge cs => cs.length

def setStage (b : Option Batch) (s : State) : State := { s with batch := { s.batch with stage := b } }

/-! ### The supervisor (R33 to R36) -/

/-- The expiry cause (Table 13-3). -/
def causeCountdown : Nat := 0
def causeBadClose : Nat := 1

/-- The supervisor enters EXPIRED: its action is put in force and SUPERVISOR/EXPIRED is offered (R33, R35, R36). -/
def expire (cause : Nat) (s : State) : State :=
  recompute (offer .supExpired cause { s with sup := { s.sup with state := .expired, remaining := 0 } })

/-- A good close services the supervisor (R34). -/
def goodClose (s : State) : State :=
  match s.sup.state with
  | .armed => { s with sup := { s.sup with remaining := s.sup.period } }
  | .expired =>
    recompute (offer .supRestored s.sup.period { s with sup := { s.sup with state := .armed, remaining := s.sup.period } })
  | .disarmed => s

/-- A bad close services the supervisor (R35). -/
def badClose (s : State) : State :=
  match s.sup.state with
  | .armed => expire causeBadClose s
  | _ => s

/-- The count stands still at this tick: the board is in HOLD and the hold behaviour is PAUSE (R33). -/
def supPaused (s : State) : Bool := s.board.mode == .hold && s.sup.hold == .pause

/-- The count reaches 0 when the supervisor takes this tick (R33). -/
def supEnds (s : State) : Bool := s.sup.state == .armed && !supPaused s && decide (s.sup.remaining ≤ 1)

/-- The supervisor takes the internal tick (R33). -/
def supTick (s : State) : State :=
  if s.sup.state ≠ .armed ∨ supPaused s = true then s
  else if s.sup.remaining ≤ 1 then expire causeCountdown s
  else { s with sup := { s.sup with remaining := s.sup.remaining - 1 } }

/-! ### The windows (R24) -/

/-- BATCH/WINDOW's argument: the tag in the low byte, the window ended in the high byte, GAP 0 and TOTAL 1; the gap window is
named when both end (R24, spec/13). -/
def windowArg (b : Batch) : Nat := b.tag + 256 * (if b.gap ≤ 1 then 0 else 1)

/-- A window of the open batch ends when the Batch Stage takes this tick (R24). -/
def windowEnds (b : Batch) : Bool := decide (b.gap ≤ 1) || decide (b.total ≤ 1)

/-- The Batch Stage takes the internal tick (R24). -/
def batchTick (s : State) : State :=
  match s.batch.stage with
  | none => s
  | some b =>
    if windowEnds b = true then offer .batchWindow (windowArg b) (setStage none s)
    else setStage (some { b with gap := b.gap - 1, total := b.total - 1 }) s

/-! ### Requests -/

/-- BATCH_OPEN(tag, mode) (R20). -/
def batchOpenBody (tag mode : Byte) (s : State) : State × Answer :=
  let content : Option Staged := if mode = 0#8 then some (.replace []) else if mode = 1#8 then some (.merge []) else none
  match content with
  | none => (s, .refused .badField)
  | some c =>
    if tag = 0#8 then (s, .refused .badField)
    else
      let b : Batch := { tag := tag.toNat, staged := c, gap := s.batch.g, total := s.batch.w }
      match s.batch.stage with
      | none => (setStage (some b) s, done (flag1 false))
      | some old => (offer .batchSuperseded old.tag (setStage (some b) s), done (flag1 true))

/-- The stage with the gap remaining set to G (R21). -/
def restartGap (b : Batch) (s : State) : State := setStage (some { b with gap := s.batch.g }) s

/-- A PUT or DROP that has passed its field checks, or has failed them, on an open batch (R21 to R23). -/
def stageRequest (c : Option Change) (s : State) : State × Answer :=
  match s.batch.stage with
  | none => (s, .refused .noBatch)
  | some b =>
    match c with
    | none => (restartGap b s, .refused .badField)
    | some c =>
      match stageChange c b.staged with
      | none => (restartGap b s, .refused .tableFull)
      | some st => (restartGap { b with staged := st } s, done (num1 (stagedCount st)))

/-- BATCH_CLOSE publishes the staged content (R27, R28): the table after it and the trip ids trimmed. -/
def publish (st : Staged) (rs : List Live) : List Live × List Nat :=
  match st with
  | .replace set => (replaceAll set rs, [])
  | .merge cs => applyChanges cs rs

/-- A good close: the content published, the stage closed, TABLE/TRIMMED offered for each trim in order, then the supervisor
serviced (R26). -/
def closeGood (b : Batch) (s : State) : State × Answer :=
  let p := publish b.staged s.table.records
  let s1 := setStage none { s with table := { s.table with records := p.1 } }
  (goodClose (offerAll (p.2.map fun t => (.tableTrimmed, t)) s1), done (num1 p.1.length ++ num1 p.2.length))

/-- BATCH_CLOSE(tag) (R26). -/
def batchCloseBody (tag : Byte) (s : State) : State × Answer :=
  match s.batch.stage with
  | none => (badClose s, .refused .noBatch)
  | some b => if tag.toNat = b.tag then closeGood b s else (badClose (setStage none s), .refused .tagMismatch)

/-- SET_BATCH_WINDOWS(gap, total) (R25). -/
def setWindowsBody (gap total : Byte) (s : State) : State × Answer :=
  let g := clampTo 1 30 gap.toNat
  let w := clampTo 5 120 total.toNat
  ({ s with batch := { s.batch with g := g, w := w } }, done (num1 g ++ num1 w))

/-- SET_SUPERVISOR(period, action, hold behaviour, arm) (R32). -/
def setSupervisorBody (period : BitVec 16) (action hold arm : Byte) (s : State) : State × Answer :=
  if s.sup.state ≠ .disarmed then (s, .refused .wrongMode)
  else
    match readAction action, readHold hold, readFlag arm with
    | some a, some h, some m =>
      let p := clampTo 10 900 period.toNat
      let sup : Supervisor :=
        { state := if m = true then .armed else .disarmed, period := p, action := a, hold := h, remaining := if m = true then p else 0 }
      ({ s with sup := sup }, done ([supStateByte sup.state] ++ num2 p ++ [supActionByte a, holdByte h]))
    | _, _, _ => (s, .refused .badField)

/-- BATCH_OPEN (R20). -/
def execBatchOpen (v : Via) (tag mode : Byte) (s : State) : Result :=
  request v (.batchOpen v tag mode) (batchOpenBody tag mode) s

/-- PUT_DEPARTURE (R21). -/
def execPutDeparture (v : Via) (d : RawDeparture) (s : State) : Result :=
  request v (.putDeparture v d) (stageRequest ((readDepartureRecord d).map .put)) s

/-- DROP_DEPARTURE (R21). -/
def execDropDeparture (v : Via) (trip : BitVec 16) (s : State) : Result :=
  request v (.dropDeparture v trip) (stageRequest (if trip = 0#16 then none else some (.drop trip.toNat))) s

/-- BATCH_CLOSE (R26). -/
def execBatchClose (v : Via) (tag : Byte) (s : State) : Result :=
  request v (.batchClose v tag) (batchCloseBody tag) s

/-- SET_BATCH_WINDOWS (R25). -/
def execSetBatchWindows (v : Via) (gap total : Byte) (s : State) : Result :=
  request v (.setBatchWindows v gap total) (setWindowsBody gap total) s

/-- SET_SUPERVISOR (R32). -/
def execSetSupervisor (v : Via) (period : BitVec 16) (action hold arm : Byte) (s : State) : Result :=
  request v (.setSupervisor v period action hold arm) (setSupervisorBody period action hold arm) s

end Sys2Proof.Machine
end

