-- ==== Sys2Proof/Machine/Text.lean ====
section
/-! DEFINITION. Drawing text (spec/07 sections 7.2 and 7.4): the variant of a phrase, the font of a line, glyph widths and pixels, truncation, and placement. A piece of the image is a `Layer`, plain data. -/

namespace Sys2Proof.Machine

open Sys2Proof

/-! ### Phrases (R106) -/

def findPhrase (id : Nat) (ps : List Phrase) : Option Phrase := ps.find? fun p => p.id == id

/-- Variant `n` of a phrase; the empty list when absent. -/
def variant (p : Phrase) : Nat → List Byte
  | 0 => p.v0
  | 1 => p.v1
  | _ => p.v2

/-- The variant chosen for a language: its own, else variant 0, else the present one of the lowest number (R106). -/
def chooseVariant (lang : Nat) (p : Phrase) : List Byte :=
  if variant p lang ≠ [] then variant p lang else if p.v0 ≠ [] then p.v0 else if p.v1 ≠ [] then p.v1 else p.v2

/-- The glyph list of a phrase id; empty when the phrase is missing (R106). -/
def phraseCodes (ps : List Phrase) (lang id : Nat) : List Nat :=
  match findPhrase id ps with
  | none => []
  | some p => (chooseVariant lang p).map BitVec.toNat

/-! ### Fonts (R107, R110, R111): `none` is font 0 -/

def uploaded (fs : Fonts) : Nat → Option Font
  | 1 => fs.f1
  | 2 => fs.f2
  | 3 => fs.f3
  | _ => none

/-- A line's font id resolved: an uploaded font that holds a glyph, and font 0 otherwise (R110). -/
def resolveFont (fs : Fonts) (id : Nat) : Option Font := (uploaded fs id).filter fun f => !f.glyphs.isEmpty

def fontHeight : Option Font → Nat
  | none => 7
  | some f => f.height

def fontSpacing : Option Font → Nat
  | none => 1
  | some f => f.spacing

def findGlyph (code : Nat) (f : Font) : Option Glyph := f.glyphs.find? fun g => g.code == code

/-- The width of the box drawn for a missing glyph (R111). -/
def boxWidth : Nat := 4

/-- A glyph's width; a missing glyph's is the box's (R107, R111). -/
def glyphWidth (f : Option Font) (code : Nat) : Nat :=
  match f with
  | none => if 32 ≤ code ∧ code ≤ 126 then 5 else boxWidth
  | some f => match findGlyph code f with | some g => g.width | none => boxWidth

/-- The box of a missing glyph: its top row, bottom row, first column and fourth column (R111). -/
def boxPixel (h row col : Nat) : Bool := row == 0 || row + 1 == h || col == 0 || col == 3

/-- A bitmap's pixel: rows of (width + 7) div 8 bytes, leftmost column the most significant bit (spec/13). -/
def bitmapPixel (g : Glyph) (row col : Nat) : Bool :=
  (g.bitmap.getD (row * ((g.width + 7) / 8) + col / 8) 0#8).getMsbD (col % 8)

/-- Whether a glyph sets the pixel at `row`, `col` of its cell (R107, R111). -/
def glyphPixel (f : Option Font) (code row col : Nat) : Bool :=
  match f with
  | none =>
    if code = 32 then false
    else if 33 ≤ code ∧ code ≤ 126 then Config.font0Pixel code row col
    else boxPixel 7 row col
  | some f => match findGlyph code f with | some g => bitmapPixel g row col | none => boxPixel f.height row col

/-- The width of a glyph list (R111). -/
def textWidth (f : Option Font) (codes : List Nat) : Nat :=
  (codes.map (glyphWidth f)).sum + fontSpacing f * (codes.length - 1)

/-- How many leading glyphs, of at most `k`, fit in a width (R112). -/
def fitCount (f : Option Font) (width : Nat) (codes : List Nat) : Nat → Nat
  | 0 => 0
  | k + 1 => if textWidth f (codes.take (k + 1)) ≤ width then k + 1 else fitCount f width codes k

/-- Truncation: the longest leading part that fits (R112). -/
def truncate (f : Option Font) (width : Nat) (codes : List Nat) : List Nat := codes.take (fitCount f width codes codes.length)

/-! ### Layers -/

/-- A rectangle of the image: what it is filled with, if it is filled, and the text drawn in it, clipped to it. `left` is the text's
left edge and `top` the top row of its glyphs. -/
structure Layer where
  x      : Nat
  y      : Nat
  width  : Nat
  height : Nat
  fill   : Option Pixel
  ink    : Pixel
  font   : Option Font
  codes  : List Nat
  left   : Int
  top    : Nat
deriving DecidableEq, Repr

/-- Whether a text sets a pixel: its glyphs stand left to right from `left`, the font's spacing apart (R111). -/
def textPixel (f : Option Font) (top x y : Nat) (left : Int) : List Nat → Bool
  | [] => false
  | c :: cs =>
    let w := glyphWidth f c
    if left ≤ x ∧ (x : Int) < left + w then
      decide (top ≤ y ∧ y < top + fontHeight f) && glyphPixel f c (y - top) ((x : Int) - left).toNat
    else textPixel f top x y (left + w + fontSpacing f) cs

/-- A layer drawn over a pixel. -/
def layerPixel (x y : Nat) (under : Pixel) (l : Layer) : Pixel :=
  if l.x ≤ x ∧ x < l.x + l.width ∧ l.y ≤ y ∧ y < l.y + l.height then
    if textPixel l.font l.top x y l.left l.codes = true then l.ink else l.fill.getD under
  else under

/-- The image: every pixel index 0, then the layers in order (R67). -/
def drawCanvas (w h : Nat) (ls : List Layer) : Canvas :=
  (List.range h).map fun y => (List.range w).map fun x => ls.foldl (layerPixel x y) 0#4

/-- A rectangle filled with one index and holding no text. -/
def filled (x y w h : Nat) (p : Pixel) : Layer :=
  { x := x, y := y, width := w, height := h, fill := some p, ink := p, font := none, codes := [], left := 0, top := 0 }

/-- The left edge of a text of width `tw` in an area (R112). -/
def alignedLeft (a : Align) (x w tw : Nat) : Nat :=
  match a with
  | .left => x
  | .right => x + w - tw
  | .centre => x + (w - tw) / 2

/-- The top row of a line's glyphs (R113). -/
def glyphTop (y height fh : Nat) : Nat := if fh ≤ height then y + (height - fh) / 2 else y

/-- A text placed in an area by its alignment, truncated when it does not fit (R112, R113). -/
def placedText (x y w h : Nat) (ink : Pixel) (f : Option Font) (a : Align) (codes : List Nat) : Layer :=
  let kept := if textWidth f codes ≤ w then codes else truncate f w codes
  { x := x, y := y, width := w, height := h, fill := none, ink := ink, font := f, codes := kept,
    left := alignedLeft a x w (textWidth f kept), top := glyphTop y h (fontHeight f) }

/-! ### Times and minutes as glyph lists (R84, R85, R87) -/

/-- Two digits. -/
def twoDigits (n : Nat) : List Nat := [48 + n / 10 % 10, 48 + n % 10]

/-- hh:mm of a time in seconds. -/
def hhmmCodes (t : Nat) : List Nat := twoDigits (t / 3600 % 24) ++ [58] ++ twoDigits (t % 3600 / 60)

/-- hh:mm:ss of a time in seconds. -/
def hhmmssCodes (t : Nat) : List Nat := hhmmCodes t ++ [58] ++ twoDigits (t % 60)

/-- The minutes without a leading zero. -/
def minutesDigits (m : Nat) : List Nat := if m < 10 then [48 + m] else twoDigits m

/-- The glyph list of MINUTES form: the digits, then code 32 and the suffix when the suffix phrase is held (R85). -/
def minutesCodes (m : Nat) (suffixHeld : Bool) (suffix : List Nat) : List Nat :=
  if suffixHeld = true then minutesDigits m ++ 32 :: suffix else minutesDigits m

/-- The text of a CLOCK line (R87). -/
def clockCodes (f : ClockFormat) : Option Nat → List Nat
  | some t => match f with | .hhmm => hhmmCodes t | .hhmmss => hhmmssCodes t
  | none => match f with | .hhmm => [45, 45, 58, 45, 45] | .hhmmss => [45, 45, 58, 45, 45, 58, 45, 45]

end Sys2Proof.Machine
end

