-- ==== Sys2Proof/Machine/Render.lean ====
section
/-! DEFINITION. The render (R67, R68), the BLANK fill and the TEST pattern (R58, R59), what a render draws for each line (R82 to R87, R97 to R99), and the marks it leaves in the line records and the dirty set (R100, R67). -/

namespace Sys2Proof.Machine

open Sys2Proof

/-! ### Pages -/

def pageAt (ps : Pages) : Fin 4 → Option Page
  | 0 => ps.p0
  | 1 => ps.p1
  | 2 => ps.p2
  | 3 => ps.p3

/-- The current page, when one is current. -/
def currentPage (b : Board) : Option Page := b.current.bind (pageAt b.pages)

/-- The line records held of the current page: those built, or, where a request has chosen that page again, those built before it. -/
def heldLines (b : Board) : List LineRecord := b.lines.getD b.kept

/-! ### Overlay texts (R97 to R99) -/

/-- A scrolling text's offset (R99). -/
def scrollOffset (shownSince speed tw aw : Nat) : Nat := (shownSince * speed / 16) % (tw + aw)

/-- The overlay's text does not fit its area and scrolls in it (R99). -/
def scrollsIn (o : Overlay) (f : Option Font) (codes : List Nat) (w : Nat) : Bool :=
  o.present == .scroll && decide (w < textWidth f codes)

/-- The overlay's text in an area (R99). -/
def overlayText (o : Overlay) (shownSince x y w h : Nat) (ink : Pixel) (f : Option Font) (top : Nat) (codes : List Nat) : Layer :=
  let tw := textWidth f codes
  if scrollsIn o f codes w = true then
    { x := x, y := y, width := w, height := h, fill := none, ink := ink, font := f, codes := codes,
      left := (x : Int) + w - scrollOffset shownSince o.speed tw w, top := top }
  else { placedText x y w h ink f .left codes with top := top }

/-- The font and colours of the middle band of a FULL overlay (R98): those of line 0 of the current page, or font 0, index 0 and
index 15 while no page is current. -/
structure BandStyle where
  font : Option Font
  fg   : Pixel
  bg   : Pixel
  lang : Nat
deriving DecidableEq, Repr

def bandStyle (s : State) : BandStyle :=
  match currentPage s.board with
  | none => { font := none, fg := 15#4, bg := 0#4, lang := 0 }
  | some p =>
    match p.lines with
    | [] => { font := none, fg := 15#4, bg := 0#4, lang := 0 }
    | l :: _ => { font := resolveFont s.fonts l.font, fg := l.fg, bg := l.bg, lang := p.language }

/-- The top row of the middle band (R98). -/
def bandTop (canvasHeight fh : Nat) : Nat := if fh ≤ canvasHeight then (canvasHeight - fh) / 2 else 0

/-- What a FULL overlay draws: the middle band and its text (R98). -/
def fullLayers (s : State) (o : Overlay) : List Layer :=
  let st := bandStyle s
  let top := bandTop s.board.height (fontHeight st.font)
  [filled 0 top s.board.width (fontHeight st.font) st.bg,
    overlayText o s.overlays.shownSince 0 top s.board.width (fontHeight st.font) st.fg st.font top
      (phraseCodes s.phrases st.lang o.phrase)]

/-! ### Lines -/

/-- A present field of a departure line, drawn in its own rectangle (R82). -/
def fieldLayer (l : LineDef) (f : Option Font) (fd : Field) (a : Align) (codes : List Nat) : List Layer :=
  if fd.width = 0 then [] else [placedText (l.x + fd.x) l.y fd.width l.height l.fg f a codes]

/-- The text of a departure line's time field (R84). -/
def timeCodes (s : State) (lang : Nat) (form : TimeForm) (value : TimeValue) : List Nat :=
  match form, value with
  | .minutes, .minutes m i => minutesCodes m (findPhrase i s.phrases).isSome (phraseCodes s.phrases lang i)
  | .due, .phrase i => phraseCodes s.phrases lang i
  | .status, .phrase i => phraseCodes s.phrases lang i
  | .clock, .time t => hhmmCodes t
  | _, _ => []

/-- What a line's content draws over its background (R82, R83, R87, R97). `top` is the overlay on top, if any. -/
def contentLayers (s : State) (lang : Nat) (l : LineDef) (r : LineRecord) (top : Option Overlay) : List Layer :=
  let f := resolveFont s.fonts l.font
  match l.kind, r.content with
  | .departure _ _ _ code dest time, .departure (some sel) form value =>
    fieldLayer l f code .left (phraseCodes s.phrases lang sel.linePh)
      ++ fieldLayer l f dest .left (phraseCodes s.phrases lang sel.destPh)
      ++ fieldLayer l f time .right (timeCodes s lang form value)
  | .clock fmt a, .clock _ t => [placedText l.x l.y l.width l.height l.fg f a (clockCodes fmt t)]
  | .phrase _ a, .phrase i => [placedText l.x l.y l.width l.height l.fg f a (phraseCodes s.phrases lang i)]
  | .band _, .band i =>
    match top with
    | some o =>
      [overlayText o s.overlays.shownSince l.x l.y l.width l.height l.fg f (glyphTop l.y l.height (fontHeight f))
        (phraseCodes s.phrases lang o.phrase)]
    | none => [placedText l.x l.y l.width l.height l.fg f .left (phraseCodes s.phrases lang i)]
  | _, _ => []

/-- A line: its rectangle filled with its background, then its content (R67). -/
def lineLayers (s : State) (lang : Nat) (top : Option Overlay) (l : LineDef) (r : LineRecord) : List Layer :=
  filled l.x l.y l.width l.height l.bg :: contentLayers s lang l r top

/-- What a render draws for a page and its line records under the overlay stack as it stands (R67). -/
def pageLayers (s : State) (p : Page) (rs : List LineRecord) : List Layer :=
  match s.overlays.records with
  | o :: _ =>
    if o.scope = .full then fullLayers s o else (List.zipWith (lineLayers s p.language (some o)) p.lines rs).flatten
  | [] => (List.zipWith (lineLayers s p.language none) p.lines rs).flatten

/-- What a render draws while no page is current (R67, R98). -/
def barePage (s : State) : List Layer :=
  match s.overlays.records with
  | o :: _ => if o.scope = .full then fullLayers s o else []
  | [] => []

/-! ### The marks of a render (R100) -/

/-- The covered item and the drawn phrase a render gives a line record (R100). -/
def markRecord (top : Option Overlay) (k : LineKind) (r : LineRecord) : LineRecord :=
  let own : LineRecord := { r with covered := false, drawn := ownPhrase r.content }
  match top with
  | none => own
  | some o =>
    if o.scope = .full then { r with covered := true, drawn := some o.phrase }
    else match k with | .band _ => { r with covered := true, drawn := some o.phrase } | _ => own

/-- The marks of a render on the current page's line records. -/
def markRecords (s : State) (p : Page) (rs : List LineRecord) : List LineRecord :=
  List.zipWith (fun l r => markRecord s.overlays.records.head? l.kind r) p.lines rs

/-! ### Drawing into the canvas -/

/-- The pixels of a region (R122). -/
def regionPixels (c : Canvas) (g : Placement) : List (List Pixel) := (List.range g.height).map (regionRow c g)

/-- A placed panel whose region holds a pixel that differs between two canvases (R67). -/
def regionChanged (a b : Canvas) (g : Option Placement) : Bool :=
  match g with
  | none => false
  | some g => regionPixels a g != regionPixels b g

/-- The canvas written, with each placed panel whose pixels changed added to the dirty set, and the pending render met
(R67, R68). -/
def paint (c : Canvas) (s : State) : State :=
  { s with
    board := { s.board with canvas := c, pending := false },
    coder := { s.coder with
      dirty := Per8.tabulate fun p => s.coder.dirty.get p || regionChanged s.board.canvas c (s.board.places.get p) } }

/-- The test pattern of one placed panel: its number and the colour bars of its bottom 8 rows (R59). -/
def testPanel (p : Pos) (g : Placement) : List Layer :=
  { x := g.x, y := g.y, width := g.width, height := g.height, fill := none, ink := 15#4, font := none, codes := [48 + p.num],
    left := g.x, top := g.y } ::
    (List.range 15).map fun i => filled (g.x + 4 * i) (g.y + g.height - 8) 4 8 (BitVec.ofNat 4 (i + 1))

/-- The test pattern (R59). -/
def testLayers (b : Board) : List Layer :=
  Pos.all.flatMap fun p => match b.places.get p with | none => [] | some g => testPanel p g

/-- The render of RUN and HOLD (R67): with a page current and its line records not built, none is performed. -/
def renderPage (s : State) : State :=
  match s.board.current with
  | none => paint (drawCanvas s.board.width s.board.height (barePage s)) s
  | some i =>
    match pageAt s.board.pages i, s.board.lines with
    | some p, some rs =>
      let s1 := { s with board := { s.board with lines := some (markRecords s p rs), rendered := true } }
      paint (drawCanvas s.board.width s.board.height (pageLayers s p rs)) s1
    | _, _ => s

/-- A render performed: what the mode calls for at this moment (R68). -/
def performRender (s : State) : State :=
  match s.board.mode with
  | .blank => paint (drawCanvas s.board.width s.board.height []) s
  | .test => paint (drawCanvas s.board.width s.board.height (testLayers s.board)) s
  | .run => renderPage s
  | .hold => renderPage s
  | _ => s

/-- A render requested: performed at once in frame state IDLE or DELIVERING, deferred in CODING (R68). -/
def requestRender (s : State) : State :=
  if s.coder.state = .coding then { s with board := { s.board with pending := true } } else performRender s

/-! ### Scrolling (R96) -/

/-- The top is a SCROLL overlay whose text scrolls in an area where it is visible (R96, R99). A BAND overlay becomes visible
at the first render of a page that has a BAND line (R97, log 40). -/
def topScrolls (s : State) : Bool :=
  match s.overlays.records with
  | [] => false
  | o :: _ =>
    match o.scope with
    | .full =>
      let st := bandStyle s
      scrollsIn o st.font (phraseCodes s.phrases st.lang o.phrase) s.board.width
    | .band =>
      match currentPage s.board with
      | none => false
      | some p =>
        s.board.rendered && p.lines.any fun l =>
          match l.kind with
          | .band _ => scrollsIn o (resolveFont s.fonts l.font) (phraseCodes s.phrases p.language o.phrase) l.width
          | _ => false

end Sys2Proof.Machine
end

