-- ==== Sys2Proof/Machine/Coder.lean ====
section
/-! DEFINITION. The Frame Coder (spec/08): the dirty sets, the start of a frame, its coding, its handing over to the chain, and SET_PALETTE. -/

namespace Sys2Proof.Machine

open Sys2Proof

/-! ### The dirty sets (R116) -/

def isPlaced (s : State) (p : Pos) : Bool := (s.board.places.get p).isSome

/-- A placed position added to the dirty set and the palette-dirty set (Table 8-2). -/
def markBoth (p : Pos) (s : State) : State :=
  if isPlaced s p = true then
    { s with coder := { s.coder with dirty := s.coder.dirty.set p true, palDirty := s.coder.palDirty.set p true } }
  else s

/-- Every placed position added to the palette-dirty set (Table 8-2). -/
def markPalettes (s : State) : State :=
  { s with coder := { s.coder with palDirty := Per8.tabulate fun p => s.coder.palDirty.get p || isPlaced s p } }

/-- Both sets emptied (R53, R116). -/
def clearMarks (s : State) : State :=
  { s with coder := { s.coder with dirty := Per8.all false, palDirty := Per8.all false } }

/-- A panel is eligible for a frame: placed, and ACTIVE or FAILING (R116). -/
def panelEligible (s : State) (p : Pos) : Bool :=
  isPlaced s p && ((s.chain.recs.get p).state == .active || (s.chain.recs.get p).state == .failing)

/-- An eligible panel in either set: a frame takes it (R118). -/
def frameTakes (s : State) (p : Pos) : Bool := panelEligible s p && (s.coder.dirty.get p || s.coder.palDirty.get p)

/-! ### Delivery work (R136) -/

/-- The addressed packets of a frame, in the order R136 gives: the PALETTE packets, then each panel's STRIPE packets. -/
def frameItems (r : FrameRecord) : List Item :=
  (r.entries.filter fun e => e.drive.isSome).map (fun e => .palette e.pos)
    ++ (r.entries.filter fun e => e.striped).flatMap fun e => (List.range (e.geom.height / 8)).map fun n => .stripe e.pos n

def itemPos : Item → Pos
  | .palette p => p
  | .stripe p _ => p

/-- The packet that carries an item, from the frame record and the stripe store (Table 13-10). -/
def itemPacket (s : State) (it : Item) : Packet :=
  let f := BitVec.ofNat 8 s.coder.number
  match it with
  | .palette p =>
    .palette f p (((s.coder.record.bind fun r => r.entries.find? fun e => e.pos == p).bind fun e => e.drive).getD [])
  | .stripe p n =>
    .stripe f p (BitVec.ofNat 8 n) (((s.coder.stripes.find? fun t => t.pos == p && t.number == n).map fun t => t.rows).getD [])

/-- The panel set of SHOW: the frame's panels that were not given up (R138). -/
def showSet (s : State) (givenUp : PosSet) : PosSet :=
  Per8.tabulate fun p =>
    (match s.coder.record with | none => false | some r => r.entries.any fun e => e.pos == p) && !givenUp.get p

/-- The controller sends its next packet of the frame: the next addressed one, or SHOW after the last (R136, R138). -/
def sendNext (rest : List Item) (givenUp : PosSet) (s : State) : State :=
  match rest with
  | it :: rest =>
    { s with chain := { s.chain with work := .delivering (some ⟨it, 1⟩) rest givenUp, out := some (itemPacket s it) } }
  | [] =>
    { s with chain := { s.chain with
        work := .delivering none [] givenUp, out := some (.show_ (BitVec.ofNat 8 s.coder.number) (showSet s givenUp)) } }

/-- The handed frame takes the chain for delivery (R136). -/
def beginDelivery (s : State) : State :=
  match s.coder.record with
  | none => s
  | some r => sendNext (frameItems r) (Per8.all false) s

/-! ### The life of a frame (R117 to R119) -/

/-- The stripes of a frame, coded from the canvas (R119). -/
def codeFrame (c : Canvas) (r : FrameRecord) : List Stripe :=
  (r.entries.filter fun e => e.striped).flatMap fun e => (List.range (e.geom.height / 8)).map fun n => codeStripe c e.pos e.geom n

/-- Coding completes (R119): the stripes stand in the store, the frame is handed over, a pending render is performed, and the
frame takes the chain if it is IDLE with no probe round due (R130). -/
def completeCoding (s : State) : State :=
  match s.coder.record with
  | none => s
  | some r =>
    let s1 := { s with coder := { s.coder with state := .delivering, stripes := codeFrame s.board.canvas r } }
    let s2 := if s1.board.pending = true then performRender s1 else s1
    if s2.chain.work = .idle ∧ s2.chain.roundDue = false then beginDelivery s2 else s2

/-- The entry of a panel that a starting frame takes (R118). -/
def frameEntry (s : State) (p : Pos) : Option Entry :=
  match s.board.places.get p with
  | none => none
  | some g =>
    if frameTakes s p = true then
      some { pos := p, geom := g, striped := s.coder.dirty.get p,
             drive := if s.coder.palDirty.get p = true then
                 some (driveTable (s.board.mode == .blank) s.coder.palette s.light.applied g)
               else none }
    else none

/-- The five steps at the start of a frame (R118). -/
def openFrame (s : State) : State :=
  let n := (s.coder.number + 1) % 256
  { s with coder := { s.coder with
      state := .coding, number := n,
      dirty := Per8.tabulate fun p => s.coder.dirty.get p && !frameTakes s p,
      palDirty := Per8.tabulate fun p => s.coder.palDirty.get p && !frameTakes s p,
      record := some { number := n, entries := Pos.all.filterMap (frameEntry s) } } }

/-- No entry of the frame in hand holds stripes (R119). -/
def paletteOnly (s : State) : Bool :=
  match s.coder.record with
  | none => true
  | some r => r.entries.all fun e => !e.striped

/-- A frame starts; one whose entries are all palette-only completes its coding at its start (R118, R119). -/
def startFrame (s : State) : State :=
  let s1 := openFrame s
  if paletteOnly s1 = true then completeCoding s1 else s1

/-- A frame starts at any event that leaves the frame state IDLE with an eligible panel in either set (R117). -/
def settle (s : State) : State :=
  if s.coder.state = .idle ∧ Pos.all.any (frameTakes s) = true then startFrame s else s

/-- CODING_COMPLETE (R119). In another frame state nothing is being coded. -/
def execCodingComplete (s : State) : Result := .next (if s.coder.state = .coding then completeCoding s else s)

/-! ### SET_PALETTE (R126) -/

/-- A palette with consecutive entries replaced from `first` on. -/
def replaceEntries (pal : List RGB) (first : Nat) (es : List RGB) : List RGB :=
  pal.take first ++ es ++ pal.drop (first + es.length)

/-- SET_PALETTE (R126). -/
def setPaletteBody (first : Byte) (es : List RGB) (s : State) : State × Answer :=
  if 15 < first.toNat ∨ es.length = 0 ∨ 16 < es.length ∨ 15 < first.toNat + es.length - 1 then (s, .refused .badField)
  else
    (settle (markPalettes { s with coder := { s.coder with palette := replaceEntries s.coder.palette first.toNat es } }), done [])

/-- SET_PALETTE (R126). -/
def execSetPalette (v : Via) (first : Byte) (entries : List RGB) (s : State) : Result :=
  request v (.setPalette v first entries) (setPaletteBody first entries) s

end Sys2Proof.Machine
end

