-- ==== Sys2Proof/Machine/Chain.lean ====
section
/-! DEFINITION. The Panel Chain Controller (spec/09): enumeration, the answers of a delivery and of a probe round, the probe interval, and its requests. -/

namespace Sys2Proof.Machine

open Sys2Proof

def setWork (w : ChainWork) (s : State) : State := { s with chain := { s.chain with work := w } }

def setRec (p : Pos) (r : PanelRecord) (s : State) : State := { s with chain := { s.chain with recs := s.chain.recs.set p r } }

/-- A packet put on the out pair. -/
def sendPacket (k : Packet) (s : State) : State := { s with chain := { s.chain with out := some k } }

/-! ### Enumeration (R129 to R133) -/

/-- An enumeration waits for the chain: the board is ENUMERATING and the enumeration does not hold the chain yet (R130). -/
def enumWaiting (s : State) : Bool := s.board.mode == .enumerating && s.chain.work != .enumerating

/-- Enumeration takes the chain: one ENUMERATE carrying 1 is sent (R132). -/
def beginEnumeration (s : State) : State := sendPacket (.enumerate 1#8) (setWork .enumerating s)

/-- A SET_BOARD that is taken resets the panel records and the chain count, and enumeration takes an idle chain at once. A probe
round in progress is ended, and the enumeration waits for its outstanding PROBE's window (R129, R130, R132). That the chain activity
stays PROBING until that window closes is the model's choice (log 42). -/
def chainDeclare (s : State) : State :=
  let s1 := { s with chain := { s.chain with recs := Per8.all PanelRecord.init, count := 0 } }
  match s.chain.work with
  | .idle => beginEnumeration s1
  | .probing p _ _ => setWork (.probing p [] true) s1
  | _ => s1

/-- The completion of enumeration with chain count `c` (R133, R54). -/
def completeEnumeration (c : Nat) (s : State) : State :=
  let f := min c s.board.panelCount
  let recs := Per8.tabulate fun p => if p.num ≤ f then { PanelRecord.init with state := .active } else PanelRecord.init
  let s1 := { s with chain := { s.chain with recs := recs, count := c, found := f, work := .idle }, board := { s.board with mode := .blank } }
  if c ≤ s.board.panelCount then offer .panelBoardReady f s1 else offer .panelExtra c s1

/-- ENUMERATION_START: a waiting enumeration takes the idle chain (R132). -/
def execEnumerationStart (s : State) : Result :=
  .next (if enumWaiting s = true ∧ s.chain.work = .idle then beginEnumeration s else s)

/-- ENUMERATION_COMPLETE: bytes on the return pair. A well-formed ENUMERATE carrying 1 to 255 ends the wait; anything else is
disregarded (R132, R179). -/
def execEnumerationComplete (raw : List Byte) (s : State) : Result :=
  .next <|
    if s.chain.work = .enumerating then
      match singleBody 0x01#8 raw with
      | some m => if m = 0#8 then s else settle (completeEnumeration (m.toNat - 1) s)
      | none => s
    else s

/-- ENUMERATION_TIMEOUT: no ENUMERATE returned within 50 ms, so the chain count becomes 0 (R132). -/
def execEnumerationTimeout (s : State) : Result :=
  .next (if s.chain.work = .enumerating then settle (completeEnumeration 0 s) else s)

/-! ### Probing (R139, R140) -/

def faultedPositions (s : State) : List Pos := Pos.all.filter fun p => (s.chain.recs.get p).state == .faulted

/-- The next PROBE of a round, or its end (R140). -/
def probeNext (rest : List Pos) (s : State) : State :=
  match rest with
  | p :: rest => sendPacket (.probe p) (setWork (.probing p rest false) s)
  | [] => setWork .idle s

/-- A due round takes the chain: the count becomes 0; with no position FAULTED it ends at once (R139, R140). -/
def beginRound (s : State) : State :=
  probeNext (faultedPositions s) { s with chain := { s.chain with roundDue := false, probeCount := 0 } }

/-- The probe count after this tick's rise (R139). It rises also while a round is due and a SET_CHAIN_RULES has raised PROBE_EVERY
above it; that is the model's choice (log 41). -/
def probeCountNext (c : Chain) : Nat := if c.probeEvery ≤ c.probeCount then c.probeCount else c.probeCount + 1

/-- The chain controller takes the internal tick (R139). A round that falls due with the chain IDLE starts within the tick. A round
already due stays due whatever the count (log 41). -/
def chainTick (s : State) : State :=
  let n := probeCountNext s.chain
  let s1 := { s with chain := { s.chain with probeCount := n } }
  if n < s.chain.probeEvery then s1
  else if faultedPositions s = [] then { s with chain := { s.chain with probeCount := 0 } }
  else
    let s2 := { s1 with chain := { s1.chain with roundDue := true } }
    if s.chain.work = .idle ∧ enumWaiting s = false then beginRound s2 else s2

/-- PROBE_ROUND_START: a due round that had to wait takes the idle chain (R130, R140). -/
def execProbeRoundStart (s : State) : Result :=
  .next (if s.chain.roundDue = true ∧ s.chain.work = .idle ∧ enumWaiting s = false then beginRound s else s)

/-! ### Delivery (R130, R134 to R138) -/

/-- DELIVERY_START: a handed frame that had to wait takes the idle chain, when no probe round is due (R130, R136). -/
def execDeliveryStart (s : State) : Result :=
  .next <|
    if s.coder.state = .delivering ∧ s.chain.work = .idle ∧ s.chain.roundDue = false then beginDelivery s else s

/-- A panel's last packet of the frame answered ACK: its failed frames become 0 and it becomes ACTIVE (R137, R140). -/
def panelGood (p : Pos) (s : State) : State := setRec p { s.chain.recs.get p with state := .active, fails := 0 } s

/-- A panel given up for the frame (R136). -/
def giveUp (p : Pos) (s : State) : State :=
  let r := s.chain.recs.get p
  let n := min 15 (r.fails + 1)
  let s1 := markBoth p (setRec p { r with fails := n, state := if s.chain.faultAfter ≤ n then .faulted else .failing } s)
  if s.chain.faultAfter ≤ n then offer .panelFaulted p.num s1 else s1

/-- An ACK to an outstanding packet of a frame (R136, R137). -/
def frameAck (o : Outstanding) (rest : List Item) (givenUp : PosSet) (s : State) : State :=
  let p := itemPos o.item
  sendNext rest givenUp (if rest.any (fun it => itemPos it == p) = true then s else panelGood p s)

/-- A failed answer to an outstanding packet of a frame: sent again, or the retries are exhausted, the panel is given up and its
remaining packets are skipped (R135, R136). -/
def frameFail (o : Outstanding) (rest : List Item) (givenUp : PosSet) (s : State) : State :=
  let p := itemPos o.item
  if o.sent < 1 + s.chain.retryLimit then
    sendPacket (itemPacket s o.item) (setWork (.delivering (some { o with sent := o.sent + 1 }) rest givenUp) s)
  else sendNext (rest.filter fun it => itemPos it != p) (givenUp.set p true) (giveUp p s)

/-- A NAK counted (R134). -/
def countNak (p : Pos) (s : State) : State :=
  let r := s.chain.recs.get p
  setRec p { r with naks := satInc 255 r.naks } s

/-- A timeout counted (R134). -/
def countTimeout (p : Pos) (s : State) : State :=
  let r := s.chain.recs.get p
  setRec p { r with timeouts := satInc 255 r.timeouts } s

/-- A PROBE answered ACK: the panel recovers (R140). -/
def recover (p : Pos) (s : State) : State := offer .panelRecovered p.num (markBoth p (panelGood p s))

/-- ANSWER_ACK: bytes arrive within the answer window. They count only as a well-formed ACK from the addressed position (R134,
R179); the answer to a PROBE of a round that a SET_BOARD has ended is disregarded (R130). -/
def execAnswerAck (raw : List Byte) (s : State) : Result :=
  .next <|
    match s.chain.work with
    | .delivering (some o) rest g => if isAckFrom (itemPos o.item) raw = true then settle (frameAck o rest g s) else s
    | .probing p rest ended =>
      if isAckFrom p raw = true ∧ ended = false then settle (probeNext rest (recover p s)) else s
    | _ => s

/-- ANSWER_NAK: bytes arrive within the answer window, and count only as a well-formed NAK from the addressed position (R134,
R179). -/
def execAnswerNak (raw : List Byte) (s : State) : Result :=
  .next <|
    match s.chain.work with
    | .delivering (some o) rest g =>
      if isNakFrom (itemPos o.item) raw = true then settle (frameFail o rest g (countNak (itemPos o.item) s)) else s
    | .probing p rest ended =>
      if isNakFrom p raw = true ∧ ended = false then settle (probeNext rest (countNak p s)) else s
    | _ => s

/-- ANSWER_TIMEOUT: the answer window closes with no answer (R134). The window of a PROBE whose round a SET_BOARD has ended closes
without counting, and gives the chain back (R130, log 32). -/
def execAnswerTimeout (s : State) : Result :=
  .next <|
    match s.chain.work with
    | .delivering (some o) rest g => settle (frameFail o rest g (countTimeout (itemPos o.item) s))
    | .probing p rest ended => if ended = true then setWork .idle s else settle (probeNext rest (countTimeout p s))
    | _ => s

/-- The end of delivery (R120, R138): the chain is IDLE, the frame record is absent, the stripe store empty and the frame state
IDLE. -/
def endDelivery (s : State) : State :=
  { s with
    chain := { s.chain with work := .idle },
    coder := { s.coder with state := .idle, record := none, stripes := [] } }

/-- DELIVERY_END: SHOW has been sent (R120). -/
def execDeliveryEnd (s : State) : Result :=
  .next <|
    match s.chain.work with
    | .delivering none _ _ => settle (endDelivery s)
    | _ => s

/-! ### Requests (R142, R143) -/

/-- The chain activity (Table 9-1); PROBING too while an ended round's last window is open (log 42). -/
def activity : ChainWork → ChainActivity
  | .idle => .idle
  | .enumerating => .enumerating
  | .delivering .. => .delivering
  | .probing .. => .probing

/-- SET_CHAIN_RULES (R142). -/
def setChainRulesBody (retry fault probe : Byte) (s : State) : State × Answer :=
  let r := clampTo 0 7 retry.toNat
  let f := clampTo 1 15 fault.toNat
  let e := clampTo 5 60 probe.toNat
  ({ s with chain := { s.chain with retryLimit := r, faultAfter := f, probeEvery := e } }, done (num1 r ++ num1 f ++ num1 e))

/-- One position's part of the PANEL_REPORT reply (R143). -/
def panelBytes (s : State) (p : Pos) : List Byte :=
  let r := s.chain.recs.get p
  [panelStateByte r.state] ++ flag1 (isPlaced s p) ++ num1 r.fails ++ num1 r.naks ++ num1 r.timeouts

/-- PANEL_REPORT (R143): its sending reduces the totals by the values carried. -/
def reportPanels (s : State) : Answer :=
  .done (num1 s.chain.count ++ num1 s.chain.found ++ [Config.chainActivityByte (activity s.chain.work)] ++ num1 s.chain.retryLimit
      ++ num1 s.chain.faultAfter ++ num1 s.chain.probeEvery ++ Pos.all.flatMap (panelBytes s))
    (.panels (Per8.tabulate fun p => (s.chain.recs.get p).naks) (Per8.tabulate fun p => (s.chain.recs.get p).timeouts))

/-- SET_CHAIN_RULES (R142). -/
def execSetChainRules (v : Via) (retry fault probe : Byte) (s : State) : Result :=
  request v (.setChainRules v retry fault probe) (setChainRulesBody retry fault probe) s

/-- PANEL_REPORT (R143). -/
def execPanelReport (v : Via) (s : State) : Result := reading v (.panelReport v) reportPanels s

end Sys2Proof.Machine
end

