-- ==== Sys2Proof/Machine/Board.lean ====
section
/-! DEFINITION. The Board Composer (spec/04): the page cycle, the building of line records, the composer's tick, and the board requests. -/

namespace Sys2Proof.Machine

open Sys2Proof

/-! ### The page cycle (R64, R65) -/

/-- A line that selects no record from the live table as it stands (R64, R80). -/
def selectsNone (s : State) (l : LineDef) : Bool :=
  match l.kind with
  | .departure f rank sc _ _ _ => (selectRecord f rank sc s.table.records).isNone
  | _ => true

def isDeparture (l : LineDef) : Bool :=
  match l.kind with
  | .departure .. => true
  | _ => false

/-- A page is passed over: skip-if-empty, at least one DEPARTURE line, and every DEPARTURE line selects no record (R64). -/
def passedOver (s : State) (p : Page) : Bool :=
  p.skip && p.lines.any isDeparture && p.lines.all fun l => !isDeparture l || selectsNone s l

/-- The four indices in ascending cyclic order from a start (R64). -/
def cyclic (start : Fin 4) : List (Fin 4) := [start, start + 1, start + 2, start + 3]

/-- The page chosen from a starting index: the first defined page not passed over, else the lowest defined page (R64). -/
def choice (s : State) (start : Fin 4) : Option (Fin 4) :=
  match (cyclic start).find? (fun i => match pageAt s.board.pages i with | some p => !passedOver s p | none => false) with
  | some i => some i
  | none => (cyclic 0).find? fun i => (pageAt s.board.pages i).isSome

/-- Choosing a page sets the dwell remaining to its dwell and marks the line records not built (R64). They are discarded only where
the current page changes (R66); where the same page is chosen again they are kept for the marks of the last render (R100, log 17),
and the page has still been rendered (R97, log 40). -/
def choosePage (start : Fin 4) (s : State) : State :=
  let c := choice s start
  { s with board := { s.board with
      current := c, dwell := ((c.bind (pageAt s.board.pages)).map fun p => p.dwell).getD 0, lines := none,
      kept := if c = s.board.current then heldLines s.board else [],
      rendered := s.board.rendered && decide (c = s.board.current) } }

/-- The dwell of the current page reaches 0 at this tick (R65). -/
def dwellEnds (s : State) : Bool :=
  s.board.mode == .run && s.board.current.isSome && s.board.lines.isSome && decide (s.board.dwell ≤ 1)

/-- The page-cycle step of a tick in RUN (R65). -/
def pageStep (s : State) : State :=
  match s.board.current with
  | none => s
  | some i =>
    if s.board.lines = none then s
    else if s.board.dwell ≤ 1 then choosePage (i + 1) s
    else { s with board := { s.board with dwell := s.board.dwell - 1 } }

/-- The drawn phrase of a line record built: what the building gives it (Table 4-5, Table 5-3), but that of a covered BAND line, which
only a render sets (R70, log 17). -/
def builtPhrase (k : LineKind) (c : LineContent) (old : Option LineRecord) : Option Nat :=
  match k, old with
  | .band _, some o => if o.covered = true then o.drawn else ownPhrase c
  | _, _ => ownPhrase c

/-- A line record built, keeping the covered mark of the last render until the next one (R66, R81, R100, log 17). -/
def buildLine (s : State) (l : LineDef) (old : Option LineRecord) : LineRecord :=
  let c := buildContent s l.kind
  { content := c, covered := old.any fun o => o.covered, drawn := builtPhrase l.kind c old }

/-- Line records built for every line of a page, from the records held before, in order. -/
def buildLines (s : State) : List LineDef → List LineRecord → List LineRecord
  | [], _ => []
  | l :: ls, old => buildLine s l old.head? :: buildLines s ls old.tail

/-- The building of line records at a tick in RUN (R66). -/
def buildPage (s : State) : State :=
  match currentPage s.board with
  | none => s
  | some p => { s with board := { s.board with lines := some (buildLines s p.lines (heldLines s.board)), kept := [] } }

/-- The Board Composer takes the internal tick: the work of Table 4-2 for the mode in force (R52). -/
def composerTick (s : State) : State :=
  match s.board.mode with
  | .unconfigured => s
  | .run => settle (requestRender (buildPage (pageStep (evaluate true s))))
  | _ => evaluate true s

/-! ### SET_BOARD (R53) -/

/-- A canvas size or count that R53 refuses. -/
def boardFieldsOk (w h n : Nat) : Bool :=
  decide (64 ≤ w ∧ w ≤ 512 ∧ w % 64 = 0 ∧ 16 ≤ h ∧ h ≤ 128 ∧ h % 16 = 0 ∧ 1 ≤ n ∧ n ≤ 8)

/-- The board declared anew (R53). -/
def declareBoard (w h n : Nat) (b : Board) : Board :=
  { b with mode := .enumerating, width := w, height := h, panelCount := n, places := Per8.all none, pages := Pages.none,
           current := none, dwell := 0, lines := none, canvas := List.replicate h (List.replicate w 0#4), pending := false,
           kept := [], rendered := false }

/-- SET_BOARD (R53): the mode and the frame state are checked before the fields (log 15). -/
def setBoardBody (w h n : Nat) (s : State) : State × Answer :=
  match s.board.mode with
  | .unconfigured | .blank =>
    if s.board.mode = .blank ∧ s.coder.state ≠ .idle then (s, .refused .busy)
    else if boardFieldsOk w h n = false then (s, .refused .badField)
    else (recompute (chainDeclare (clearMarks { s with board := declareBoard w h n s.board })), done [])
  | _ => (s, .refused .wrongMode)

/-! ### SET_PANEL (R55, R56) -/

/-- Two regions share a pixel (R55). -/
def overlap (a b : Placement) : Bool :=
  decide (a.x < b.x + b.width ∧ b.x < a.x + a.width ∧ a.y < b.y + b.height ∧ b.y < a.y + a.height)

/-- The checks of R55 on a region's own fields. -/
def regionOk (cw ch : Nat) (g : Placement) : Bool :=
  decide (g.x % 16 = 0 ∧ g.y % 16 = 0 ∧ (g.width = 64 ∨ g.width = 128) ∧ (g.height = 16 ∨ g.height = 32)
    ∧ (g.scan = 4 ∨ g.scan = 8 ∨ g.scan = 16) ∧ g.scan ≤ g.height ∧ g.x + g.width ≤ cw ∧ g.y + g.height ≤ ch)

/-- The region overlaps that of another placed position (R55). -/
def overlapsOther (s : State) (p : Pos) (g : Placement) : Bool :=
  Pos.all.any fun q => q != p && match s.board.places.get q with | some o => overlap g o | none => false

def readPlacement (r : RawPanel) : Placement :=
  { x := r.x.toNat, y := r.y.toNat, width := r.width.toNat, height := r.height.toNat, scan := r.scan.toNat,
    gainR := r.gainR.toNat, gainG := r.gainG.toNat, gainB := r.gainB.toNat }

/-- The board has geometry: its mode is BLANK, RUN, TEST or HOLD. -/
def isConfigured (m : BoardMode) : Bool := m != .unconfigured && m != .enumerating

/-- SET_PANEL stores the placement and marks the position in both sets; in TEST the pattern is drawn again (R56, R59). -/
def placePanel (p : Pos) (g : Placement) (s : State) : State :=
  let s1 := markBoth p { s with board := { s.board with places := s.board.places.set p (some g) } }
  settle (if s.board.mode = .test then requestRender s1 else s1)

/-- SET_PANEL (R55, R56). -/
def setPanelBody (r : RawPanel) (s : State) : State × Answer :=
  if isConfigured s.board.mode = false then (s, .refused .wrongMode)
  else
    let g := readPlacement r
    match Pos.ofNum? r.position.toNat with
    | none => (s, .refused .badField)
    | some p =>
      if p.num ≤ s.board.panelCount ∧ regionOk s.board.width s.board.height g = true ∧ overlapsOther s p g = false then
        (placePanel p g s, done [])
      else (s, .refused .badField)

/-! ### SET_MODE (R57 to R60) -/

/-- BLANK or TEST is entered: the line records are discarded and a pending render is cleared (R57). The page is no longer shown, so it
counts as not rendered (log 40). -/
def dropImage (s : State) : State :=
  { s with board := { s.board with lines := none, pending := false, kept := [], rendered := false } }

/-- The work of a change to another mode (R57 to R60). -/
def enterMode (m : BoardMode) (s : State) : State :=
  let s1 := if s.board.mode = .blank ∨ m = .blank then markPalettes s else s
  let s2 := { s1 with board := { s1.board with mode := m } }
  match m with
  | .blank => requestRender (dropImage s2)
  | .test => requestRender (dropImage s2)
  | .run => choosePage 0 s2
  | _ => s2

/-- SET_MODE (R57). -/
def setModeBody (mode : Byte) (s : State) : State × Answer :=
  if isConfigured s.board.mode = false then (s, .refused .wrongMode)
  else
    match readMode mode with
    | none => (s, .refused .badField)
    | some m =>
      if m = s.board.mode then (if m = .run then choosePage 0 s else s, done [])
      else (settle (enterMode m s), done [])

/-! ### SET_PAGE (R61 to R63) -/

def setPageAt (ps : Pages) (i : Fin 4) (p : Option Page) : Pages :=
  match i with
  | 0 => { ps with p0 := p }
  | 1 => { ps with p1 := p }
  | 2 => { ps with p2 := p }
  | 3 => { ps with p3 := p }

/-- The set of defined pages as a mask, page i at bit i (log 14). -/
def pageMask (ps : Pages) : Nat :=
  (if ps.p0.isSome then 1 else 0) + (if ps.p1.isSome then 2 else 0) + (if ps.p2.isSome then 4 else 0) + (if ps.p3.isSome then 8 else 0)

def pageIndex (b : Byte) : Option (Fin 4) := if h : b.toNat < 4 then some ⟨b.toNat, h⟩ else none

/-- The page of SET_PAGE, when the checks of R61 and R62 hold: none deletes the page (R63). -/
def readPage (b : Board) (dwell language skip : Byte) (lines : List RawLine) : Option (Option Page) :=
  match readFlag skip, readLines b.width b.height lines with
  | some f, some ls =>
    if language.toNat ≤ 2 ∧ ls.length ≤ 8 ∧ linesApart ls = true then
      some (if ls = [] then none else some { dwell := clampTo 2 60 dwell.toNat, language := language.toNat, skip := f, lines := ls })
    else none
  | _, _ => none

/-- SET_PAGE stores or deletes the page, restarts the page cycle and clears a pending render (R63). The line records of a current page
that is replaced are discarded with it (R66). -/
def storePage (i : Fin 4) (p : Option Page) (s : State) : State :=
  let same := decide (s.board.current ≠ some i)
  choosePage 0 { s with board := { s.board with
    pages := setPageAt s.board.pages i p, pending := false, lines := none, kept := if same = true then heldLines s.board else [],
    rendered := s.board.rendered && same } }

/-- SET_PAGE (R61 to R63). -/
def setPageBody (index dwell language skip : Byte) (lines : List RawLine) (s : State) : State × Answer :=
  if isConfigured s.board.mode = false then (s, .refused .wrongMode)
  else
    match pageIndex index, readPage s.board dwell language skip lines with
    | some i, some p =>
      let s1 := storePage i p s
      (s1, done (num1 (pageMask s1.board.pages)))
    | _, _ => (s, .refused .badField)

/-! ### QUERY_LINE (R70) -/

/-- The three bytes of a time value (spec/13 section 13.3). -/
def valueBytes : TimeValue → List Byte
  | .none => num3 absentTime
  | .minutes m _ => num3 m
  | .phrase i => num3 i
  | .time t => num3 t

/-- The bytes from the time form to the time value of the QUERY_LINE reply (spec/13 section 13.3). -/
def contentBytes : LineContent → List Byte
  | .departure _ form value => [formByte form, 0xFF#8] ++ valueBytes value
  | .clock st t => [0xFF#8, clockStateByte st] ++ num3 (t.getD absentTime)
  | .phrase _ => [0xFF#8, 0xFF#8] ++ num3 absentTime
  | .band _ => [0xFF#8, 0xFF#8] ++ num3 absentTime

def selectedTrip : LineContent → Nat
  | .departure (some sel) _ _ => sel.trip
  | _ => 0

/-- The items of a built line record, in reply order. -/
def recordBytes (r : LineRecord) : List Byte :=
  num2 (selectedTrip r.content) ++ contentBytes r.content ++ num2 (orZero r.drawn) ++ flag1 r.covered

/-- QUERY_LINE(line index) (R70). The mode is checked before the index (log 15). An index above 7 while no page is current meets two
sentences of R70: it is refused with BAD_FIELD, the model's choice (log 55). -/
def reportLine (index : Nat) (s : State) : Answer :=
  if s.board.mode ≠ .run ∧ s.board.mode ≠ .hold then .refused .wrongMode
  else if 7 < index then .refused .badField
  else
    match s.board.current, currentPage s.board with
    | some i, some p =>
      match p.lines[index]? with
      | none => .refused .notFound
      | some l =>
        let items := ((s.board.lines.bind fun rs => rs[index]?).map recordBytes).getD (List.replicate 10 0#8)
        done (num1 i.val ++ num1 index ++ [lineKindByte l.kind] ++ flag1 s.board.lines.isSome ++ items ++ flag1 s.board.pending)
    | _, _ => .refused .notFound

/-- SET_BOARD (R53). -/
def execSetBoard (v : Via) (width : BitVec 16) (height count : Byte) (s : State) : Result :=
  request v (.setBoard v width height count) (setBoardBody width.toNat height.toNat count.toNat) s

/-- SET_PANEL (R55, R56). -/
def execSetPanel (v : Via) (p : RawPanel) (s : State) : Result :=
  request v (.setPanel v p) (setPanelBody p) s

/-- SET_MODE (R57 to R60). -/
def execSetMode (v : Via) (mode : Byte) (s : State) : Result :=
  request v (.setMode v mode) (setModeBody mode) s

/-- SET_PAGE (R61 to R63). -/
def execSetPage (v : Via) (index dwell language skip : Byte) (lines : List RawLine) (s : State) : Result :=
  request v (.setPage v index dwell language skip lines) (setPageBody index dwell language skip lines) s

/-- QUERY_LINE (R70). -/
def execQueryLine (v : Via) (index : Byte) (s : State) : Result :=
  reading v (.queryLine v index) (reportLine index.toNat) s

end Sys2Proof.Machine
end

