-- ==== Sys2Proof/Machine/Clock.lean ====
section
/-! DEFINITION. The Service Clock (spec/03): its running, its ageing, time marks, and its requests. -/

namespace Sys2Proof.Machine

open Sys2Proof

/-- The end-of-day hold, 29:59:59 and fifteen sixteenths (R40). -/
def holdValue : Nat := 1727999

/-- The lapse cause (Table 13-3). -/
def causeAge : Nat := 0
def causeEndOfDay : Nat := 1

def setClock (c : Clock) (s : State) : State := { s with clock := c }

/-! ### Running (R39, R40) -/

/-- The advance of a sub-tick: by the pending slew at the slew point, by 1 otherwise (R39). -/
def advanceOf (slewPoint : Bool) (slew : Int) : Nat :=
  if slewPoint = false then 1 else if 0 < slew then 2 else if slew < 0 then 0 else 1

/-- The pending slew after a sub-tick (R39). -/
def slewAfter (slewPoint : Bool) (slew : Int) : Int :=
  if slewPoint = false then slew else if 0 < slew then slew - 1 else if slew < 0 then slew + 1 else 0

/-- The value stands at the hold, where sub-ticks no longer advance it (R40, log 16). -/
def atHold (c : Clock) : Bool := c.held && c.value == holdValue

/-- The clock's count after a sub-tick in a state other than UNSET (R39). An advance that would carry the value past the hold leaves it
there, held, with no pending slew. A held clock does not advance, and each slew point at the hold sets the pending slew to 0 (R40, R45).
The slew point advances by the pending slew as it then stands, also where a mark has just changed that slew and the value stops short of
the hold for it: the model's reading (log 52). -/
def runClock (slewPoint : Bool) (c : Clock) : Clock :=
  let v := c.value + advanceOf slewPoint c.slew
  if atHold c = true then { c with slew := if slewPoint = true then 0 else c.slew }
  else if holdValue < v then { c with value := holdValue, slew := 0, held := true }
  else { c with value := v, slew := if slewPoint = true ∧ c.value = holdValue then 0 else slewAfter slewPoint c.slew, held := false }

/-- The clock lapses: CLOCK/LAPSED is offered with its cause and the permission is recomputed (R40, R41, R50). -/
def lapse (cause : Nat) (s : State) : State :=
  recompute (offer .clockLapsed cause (setClock { s.clock with state := .lapsed } s))

/-- A clock that is LOCKED or COASTING stands at the hold (R40). -/
def lapsesAtHold (c : Clock) : Bool := decide (holdValue ≤ c.value) && (c.state == .locked || c.state == .coasting)

/-- The Service Clock takes a sub-tick (R39, R40). -/
def clockSubTick (slewPoint : Bool) (s : State) : State :=
  if s.clock.state = .unset then s
  else
    let s1 := setClock (runClock slewPoint s.clock) s
    if lapsesAtHold s1.clock = true then lapse causeEndOfDay s1 else s1

/-- The clock reaches the hold, or stands at it while LOCKED or COASTING, when it takes this sub-tick (R40). -/
def holdReached (slewPoint : Bool) (s : State) : Bool :=
  s.clock.state != .unset && decide (holdValue ≤ (runClock slewPoint s.clock).value)
    && (decide (s.clock.value < holdValue) || lapsesAtHold s.clock)

/-! ### Ageing (R41) -/

/-- The clock after its age has risen at a tick. -/
def aged (c : Clock) : Clock := { c with age := satInc 65535 c.age }

/-- A LOCKED clock becomes COASTING when it takes this tick (R41). -/
def coasts (c : Clock) : Bool := c.state == .locked && decide (c.coastAfter ≤ (aged c).age)

/-- A COASTING clock becomes LAPSED when it takes this tick (R41). -/
def lapsesByAge (c : Clock) : Bool := c.state == .coasting && decide (c.coastAfter + c.lapseAfter ≤ (aged c).age)

/-- The Service Clock takes the internal tick (R41): the age rises, and one transition at most is made. -/
def clockTick (s : State) : State :=
  if s.clock.state = .unset then s
  else
    let s1 := setClock (aged s.clock) s
    if coasts s.clock = true then offer .clockCoasting s1.clock.age (setClock { s1.clock with state := .coasting } s1)
    else if lapsesByAge s.clock = true then lapse causeAge s1
    else s1

/-! ### Time marks (R42 to R46) -/

/-- The outcome of a mark, numbered by Table 13-3. -/
inductive MarkOutcome where
  | first | dayChanged | agreed | stepped
deriving DecidableEq, Repr

def outcomeByte : MarkOutcome → Byte
  | .first => 0#8 | .dayChanged => 1#8 | .agreed => 2#8 | .stepped => 3#8

/-- The clock set to a mark's time: the pending slew and the agreeing-mark count become 0 and the state ACQUIRING (R43 to R46). -/
def stepTo (m : Nat) (c : Clock) : Clock := { c with value := m, slew := 0, agree := 0, state := .acquiring }

/-- The mark difference D (R42). -/
def markDiff (m : Nat) (c : Clock) : Int := (m : Int) - c.value

/-- A mark agrees when |D| ≤ T × 16 (R42). -/
def markAgrees (m : Nat) (c : Clock) : Bool := decide ((markDiff m c).natAbs ≤ c.tol * 16)

/-- D as the reply carries it (R42). -/
def clampD (d : Int) : Int := max (-32768) (min 32767 d)

/-- A mark that agrees sets the pending slew. Taken with the value at the hold it finds the clock held, so that the slew stands until
the next slew point (R45, R46, log 16). -/
def agreeTo (m : Nat) (c : Clock) : Clock := { c with slew := markDiff m c, held := c.value == holdValue }

/-- A mark of the current day number in ACQUIRING (R45). -/
def markAcquiring (m : Nat) (s : State) : State × MarkOutcome :=
  if markAgrees m s.clock = true then
    if s.clock.k ≤ s.clock.agree + 1 then
      (offer .clockLocked s.clock.k (setClock { agreeTo m s.clock with agree := 0, state := .locked } s), .agreed)
    else (setClock { agreeTo m s.clock with agree := s.clock.agree + 1 } s, .agreed)
  else (setClock (stepTo m s.clock) s, .stepped)

/-- A mark of the current day number in LOCKED or COASTING (R46). -/
def markLocked (m : Nat) (s : State) : State × MarkOutcome :=
  if markAgrees m s.clock = true then
    (setClock { agreeTo m s.clock with state := .locked } s, .agreed)
  else
    (offer .clockStepped (min 65535 ((markDiff m s.clock).natAbs / 16)) (setClock (stepTo m s.clock) s), .stepped)

/-- What a mark does to the clock and the table, by the clock state and its day number (R43 to R46, R14). -/
def applyMark (day m : Nat) (s : State) : State × MarkOutcome :=
  if s.clock.state = .unset then (setClock { stepTo m s.clock with day := day } s, .first)
  else if day ≠ s.clock.day then
    (offer .clockDayChanged day (clearTable (setClock { stepTo m s.clock with day := day } s)), .dayChanged)
  else
    match s.clock.state with
    | .acquiring => markAcquiring m s
    | .lapsed => (setClock (stepTo m s.clock) s, .stepped)
    | _ => markLocked m s

/-- D as reported: 0 for the outcomes FIRST and DAY_CHANGED (R42). -/
def reportedD (o : MarkOutcome) (d : Int) : Int :=
  match o with
  | .first => 0
  | .dayChanged => 0
  | _ => clampD d

/-- TIME_MARK(day, seconds, sixteenths) (R42): the age becomes 0, the mark acts, and the permission is recomputed (R50). -/
def timeMarkBody (day sec six : Nat) (s : State) : State × Answer :=
  if maxSeconds < sec ∨ 15 < six then (s, .refused .badField)
  else
    let m := sec * 16 + six
    let d := markDiff m s.clock
    let r := applyMark day m (setClock { s.clock with age := 0 } s)
    let s1 := recompute r.1
    (s1, done ([clockStateByte s1.clock.state, outcomeByte r.2] ++ signed2 (reportedD r.2 d)))

/-! ### SET_CLOCK_RULES and READ_CLOCK (R48, R49) -/

/-- A pending slew brought within a tolerance, its sign kept (R48). -/
def limitSlew (tol : Nat) (slew : Int) : Int :=
  if slew.natAbs ≤ tol * 16 then slew else if 0 < slew then ((tol * 16 : Nat) : Int) else -((tol * 16 : Nat) : Int)

/-- SET_CLOCK_RULES (R48). -/
def setClockRulesBody (k tol coast lapseAfter : Nat) (s : State) : State × Answer :=
  let t := clampTo 1 8 tol
  let c : Clock :=
    { s.clock with k := clampTo 1 4 k, tol := t, coastAfter := clampTo 30 600 coast, lapseAfter := clampTo 60 7200 lapseAfter,
                   slew := limitSlew t s.clock.slew }
  (setClock c s, done (num1 c.k ++ num1 c.tol ++ num2 c.coastAfter ++ num2 c.lapseAfter))

/-- READ_CLOCK (R49). -/
def reportClock (s : State) : Answer :=
  let c := s.clock
  done ([clockStateByte c.state] ++ num2 c.day ++ num3 (seconds c) ++ num1 (c.value % 16) ++ signed2 c.slew ++ num1 c.agree ++ num2 c.age
    ++ num1 c.k ++ num1 c.tol ++ num2 c.coastAfter ++ num2 c.lapseAfter ++ flag1 s.board.allowed)

/-- TIME_MARK (R42). -/
def execTimeMark (v : Via) (day : BitVec 16) (sec : BitVec 24) (six : Byte) (s : State) : Result :=
  request v (.timeMark v day sec six) (timeMarkBody day.toNat sec.toNat six.toNat) s

/-- SET_CLOCK_RULES (R48). -/
def execSetClockRules (v : Via) (k tol : Byte) (coast lapseAfter : BitVec 16) (s : State) : Result :=
  request v (.setClockRules v k tol coast lapseAfter) (setClockRulesBody k.toNat tol.toNat coast.toNat lapseAfter.toNat) s

/-- READ_CLOCK (R49). -/
def execReadClock (v : Via) (s : State) : Result := reading v (.readClock v) reportClock s

end Sys2Proof.Machine
end

