-- ==== Sys2Proof/Machine/Light.lean ====
section
/-! DEFINITION. The Light Meter (spec/10). -/

namespace Sys2Proof.Machine

open Sys2Proof

def setLight (l : Light) (s : State) : State := { s with light := l }

/-! ### Measuring (R146, R147) -/

/-- A window's count stays at its top value once reached (R146). -/
def maxCount : Nat := 65535

/-- The zero-window run at which a silent sensor is recognised (R147). -/
def silentRun : Nat := 40

/-- The zero-window run after a window of this count (R147). -/
def zeroRunAfter (count run : Nat) : Nat := if count = 0 then satInc silentRun run else 0

/-- The sensor state after a window of this count, with the run as it then stands (R147). -/
def sensorAfter (count run : Nat) (st : SensorState) : SensorState :=
  if count = maxCount then .saturated
  else if count = 0 then (if run = silentRun then .silent else st)
  else .ok

/-- The notice a change of sensor state offers, with its argument (R147). -/
def sensorNotice (old new : SensorState) (applied count : Nat) : List (NoticeKind × Nat) :=
  if old = new then []
  else
    match new with
    | .saturated => [(.lightSaturated, applied)]
    | .silent => [(.lightSilent, applied)]
    | .ok => [(.lightOk, count)]

/-! ### The curve (R148) -/

/-- Between two breakpoints; the quotient is truncated toward zero (R148). -/
def interpolate (p q : Point) (c : Nat) : Nat :=
  ((p.b : Int) + (((q.b : Int) - p.b) * ((c : Int) - p.c)).tdiv ((q.c : Int) - p.c)).toNat

/-- The target on the curve from breakpoint `p` on: its own B up to its C, and the last B beyond the last C (R148). -/
def targetFrom (c : Nat) (p : Point) : List Point → Nat
  | [] => p.b
  | q :: qs => if c ≤ p.c then p.b else if c < q.c then interpolate p q c else targetFrom c q qs

/-- The target for a count (R148). -/
def target (c : Nat) (curve : List Point) : Nat :=
  match curve with
  | [] => 0
  | p :: ps => targetFrom c p ps

/-! ### Goal, slew and clamp (R149) -/

/-- The goal after a target: it follows a target that differs by H or more. -/
def goalAfter (hyst t g : Nat) : Nat := if hyst ≤ ((t : Int) - g).natAbs then t else g

/-- The applied brightness moved toward the goal by at most S. -/
def slewToward (step g a : Nat) : Nat := if a < g then min g (a + step) else max g (a - step)

/-- The light meter after a window end in a sensor state (R149). -/
def meterStep (count : Nat) (l : Light) : Light :=
  if l.sensor ≠ .ok then l
  else
    let t := target count l.curve
    match l.mode with
    | .fixed => { l with target := t }
    | .auto =>
      let g := goalAfter l.hyst t l.goal
      { l with target := t, goal := g, applied := clampTo l.bmin l.bmax (slewToward l.slew g l.applied) }

/-- A change of the applied brightness marks every placed panel palette-dirty, and a frame may start (R152). -/
def handBrightness (before : Nat) (s : State) : State :=
  if s.light.applied = before then s else settle (markPalettes s)

/-- A gate window ends (R146, R147, R149, R152). -/
def windowEnd (s : State) : State :=
  let l := s.light
  let run := zeroRunAfter l.gate l.zeroRun
  let sensor := sensorAfter l.gate run l.sensor
  let l1 := { l with gate := 0, last := l.gate, zeroRun := run, sensor := sensor }
  handBrightness l.applied (offerAll (sensorNotice l.sensor sensor l.applied l.gate) (setLight (meterStep l.gate l1) s))

/-- LUX_IN_PULSE (R146). -/
def execLuxInPulse (s : State) : Result := .next (setLight { s.light with gate := satInc maxCount s.light.gate } s)

/-- LIGHT_WINDOW_END (R146 to R149). -/
def execLightWindowEnd (s : State) : Result := .next (windowEnd s)

/-! ### Requests (R150, R151, R154) -/

/-- The settings of SET_BRIGHTNESS stored, and the applied brightness fixed or clamped (R150). -/
def brightnessSet (m : BrightMode) (b : RawBrightness) (l : Light) : Light :=
  let hi := b.bmax.toNat
  let lo := min b.bmin.toNat hi
  { l with mode := m, fixed := b.fixed.toNat, hyst := clampTo 0 32 b.hyst.toNat, slew := clampTo 1 255 b.slew.toNat,
           bmin := lo, bmax := hi,
           applied := clampTo lo hi (match m with | .fixed => b.fixed.toNat | .auto => l.applied) }

/-- The fields of the SET_BRIGHTNESS reply. -/
def brightnessBytes (l : Light) : List Byte :=
  [brightModeByte l.mode] ++ num1 l.fixed ++ num1 l.hyst ++ num1 l.slew ++ num1 l.bmin ++ num1 l.bmax ++ num1 l.applied

/-- SET_BRIGHTNESS (R150). -/
def setBrightnessBody (b : RawBrightness) (s : State) : State × Answer :=
  match readBrightMode b.mode with
  | none => (s, .refused .badField)
  | some m =>
    let l := brightnessSet m b s.light
    (handBrightness s.light.applied (setLight l s), done (brightnessBytes l))

/-- SET_LIGHT_CURVE (R151). -/
def setLightCurveBody (c : RawCurve) (s : State) : State × Answer :=
  match readCurve c with
  | none => (s, .refused .badField)
  | some ps => (setLight { s.light with curve := ps } s, done [])

/-- READ_LIGHT (R154). -/
def reportLight (s : State) : Answer :=
  let l := s.light
  done (num2 l.last ++ [sensorByte l.sensor] ++ num1 l.target ++ num1 l.goal ++ num1 l.applied ++ [brightModeByte l.mode] ++ num1 l.fixed
    ++ num1 l.hyst ++ num1 l.slew ++ num1 l.bmin ++ num1 l.bmax ++ l.curve.flatMap fun p => num2 p.c ++ num1 p.b)

/-- SET_BRIGHTNESS (R150). -/
def execSetBrightness (v : Via) (b : RawBrightness) (s : State) : Result :=
  request v (.setBrightness v b) (setBrightnessBody b) s

/-- SET_LIGHT_CURVE (R151). -/
def execSetLightCurve (v : Via) (c : RawCurve) (s : State) : Result :=
  request v (.setLightCurve v c) (setLightCurveBody c) s

/-- READ_LIGHT (R154). -/
def execReadLight (v : Via) (s : State) : Result := reading v (.readLight v) reportLight s

end Sys2Proof.Machine
end

