-- ==== Sys2Proof/WellFormed.lean ====
section
/-! DEFINITION. Well-formed commands: those a sender can send. An operand has its wire width by its type, so what is left to check is that counts fit their bytes, that a frame can carry the payload, and that a tick's order names no block twice. -/

namespace Sys2Proof

/-- The most payload bytes a frame carries (R159). -/
def maxPayload : Nat := 240

/-- A line definition whose kind byte is one of the four kinds, or is `other` with a byte beyond them (Table 13-3). -/
def RawLine.wf (l : RawLine) : Bool :=
  match l.body with
  | .other k => 4 ≤ k.toNat
  | _ => true

/-- A command that a sender can send. -/
def Instr.wf : Instr → Bool
  | .internalTick order => decide order.Nodup
  | .setPage _ _ _ _ _ ls => decide (5 + 26 * ls.length ≤ maxPayload) && ls.all RawLine.wf
  | .setPhrase _ _ a b c => decide (5 + a.length + b.length + c.length ≤ maxPayload)
  | .setGlyphs _ _ _ _ _ ws bs => decide (5 + ws.length + bs.length ≤ maxPayload)
  | .setPalette _ _ es => decide (2 + 3 * es.length ≤ maxPayload)
  | _ => true

end Sys2Proof
end

