-- ==== Sys2Proof/Machine/Line.lean ====
section
/-! DEFINITION. The Signline Interface (spec/11) and the taking of frames by the Request Handler (R168, R169): the receiver, frame completion, the receive slots, breaks and link resets, the sending of replies, and the line's two requests. -/

namespace Sys2Proof.Machine

open Sys2Proof

def setLine (l : Line) (s : State) : State := { s with line := l }

def setReceiver (r : Receiver) (s : State) : State := setLine { s.line with rx := r } s

/-- A frame abandoned: the truncation count rises and the receiver enters the state given (R159, R166). -/
def abandon (after : Receiver) (s : State) : State :=
  setLine { s.line with rx := after, trunc := satInc 255 s.line.trunc } s

/-- The line has been high since the last break, so that break is over (R160, log 22). -/
def breakOver (s : State) : State := setLine { s.line with breakOn := false, resetRaised := false } s

/-! ### Judging a complete frame (R161, R162) -/

/-- The characters of a complete frame after the sync. -/
structure Gathered where
  dest    : Byte
  kind    : Byte
  tag     : Byte
  payload : List Byte
  crc     : List Byte
deriving DecidableEq, Repr

/-- The fields of the characters gathered (R159). -/
def parseFrame : List Byte → Option Gathered
  | dest :: kind :: tag :: len :: rest =>
    some { dest := dest, kind := kind, tag := tag, payload := rest.take len.toNat, crc := rest.drop len.toNat }
  | _ => none

/-- The characters the CRC runs over (R161). -/
def crcInput (g : Gathered) : List Byte := [g.dest, g.kind, g.tag, countByte g.payload.length] ++ g.payload

/-- The CRC characters received are those of the CRC computed, high byte first (R161 step 1). -/
def crcGood (g : Gathered) : Bool := g.crc == bytes16 (crc16 (crcInput g))

/-- The addressing of a destination that the part holds; none when it is not held (R156, R161). -/
def addressingOf (l : Line) (dest : Byte) : Option Addressing :=
  if unitAddress l.straps = some dest.toNat then some .unit
  else if l.groupA = some dest.toNat ∨ l.groupB = some dest.toNat then some .group
  else if dest = 127#8 then some .broadcast
  else none

/-- A frame put into an empty slot; none when all are full (R162). Which of several empty slots takes it is the model's choice: the
lowest-numbered one (log 37). -/
def putSlot (f : Slot) (sl : Slots) : Option Slots :=
  if sl.s1 = none then some { sl with s1 := some f }
  else if sl.s2 = none then some { sl with s2 := some f }
  else if sl.s3 = none then some { sl with s3 := some f }
  else none

/-- The slot record of a kept frame: the next arrival stamp, and the next number of completion. -/
def keptFrame (g : Gathered) (a : Addressing) (l : Line) : Slot :=
  { dest := g.dest, kind := g.kind, tag := g.tag, payload := g.payload, addressing := a, stamp := l.nextStamp, seq := l.seq }

/-- A kept frame found every slot full (R162): it is counted and reported, and answered BUSY when unit-addressed. -/
def overrun (f : Slot) (s : State) : State :=
  let s1 := offer .lineSlotOverrun f.kind.toNat (setLine { s.line with busy := satInc 255 s.line.busy, seq := s.line.seq + 1 } s)
  match f.addressing with
  | .unit => handOver false (buildReply s1 f.seq f.kind f.tag (.refused .busy)) s1
  | _ => s1

/-- A frame kept by R161 is stored, or dropped for lack of a slot (R162). -/
def storeFrame (f : Slot) (s : State) : State :=
  match putSlot f s.line.slots with
  | some sl => setLine { s.line with slots := sl, nextStamp := (s.line.nextStamp + 1) % 65536, seq := s.line.seq + 1 } s
  | none => overrun f s

/-- A complete frame is judged in three steps, and the first that fails ends the judgement (R161). -/
def judgeFrame (g : Gathered) (s : State) : State :=
  if crcGood g = false then setLine { s.line with crc := satInc 255 s.line.crc } s
  else if g.kind.msb = true then s
  else
    match addressingOf s.line g.dest with
    | none => s
    | some a => storeFrame (keptFrame g a s.line) s

/-! ### The receiver (R158, R159) -/

/-- The number of characters of a frame after the sync, once its length character is there (R159). -/
def frameSize (got : List Byte) : Option Nat := got[3]?.map fun n => 4 + n.toNat + 2

/-- A good character of a frame (R159): the length is judged as it arrives, and the last CRC character completes the frame. -/
def gather (b : Byte) (got : List Byte) (s : State) : State :=
  let now := got ++ [b]
  if got.length = 3 ∧ maxPayload < b.toNat then abandon .discard s
  else if frameSize now = some now.length then
    match parseFrame now with
    | some g => judgeFrame g (setReceiver .hunt s)
    | none => s
  else setReceiver (.inFrame now) s

/-- A character has an error: its parity bit is wrong where parity is strapped, or its stop bit is low (R158, R159). A character all
of whose bits are low is one too: that it is never itself a break is the model's choice (log 38). -/
def characterError (st : Straps) (b : Byte) (parity stop : Bool) : Bool := (st.parity && parity != parityBit b) || !stop

/-- A character in the receiver's present state (R158, R159, log 38). -/
def takeCharacter (b : Byte) (parity stop : Bool) (s : State) : State :=
  let bad := characterError s.line.straps b parity stop
  match s.line.rx with
  | .hunt => s
  | .discard => s
  | .idleSeen =>
    if bad = true then setReceiver .discard s else if b = syncByte then setReceiver (.inFrame []) s else setReceiver .hunt s
  | .inFrame got => if bad = true then abandon .discard s else gather b got s

/-- The receiver is off while the part sends a reply (R164). -/
def receiverOn (s : State) : Bool := s.line.sending.isNone

/-- RECEIVE_CHARACTER (R158, R159). -/
def execReceiveCharacter (data : Byte) (parity stop : Bool) (s : State) : Result :=
  .next (if receiverOn s = true then takeCharacter data parity stop (breakOver s) else s)

/-- LINE_IDLE_SEEN: 4 character times of idle line in HUNT or DISCARD (R158, R159). -/
def execLineIdleSeen (s : State) : Result :=
  .next <|
    if receiverOn s = true then
      match s.line.rx with
      | .hunt => setReceiver .idleSeen (breakOver s)
      | .discard => setReceiver .idleSeen (breakOver s)
      | _ => s
    else s

/-- FRAME_GAP: more than 3 character times of idle line in IN_FRAME (R159). -/
def execFrameGap (s : State) : Result :=
  .next <|
    match s.line.rx with
    | .inFrame _ => if receiverOn s = true then abandon .hunt s else s
    | _ => s

/-- The last CRC character of a frame is the one still missing. -/
def awaitsLast (s : State) : Bool :=
  match s.line.rx with
  | .inFrame got => frameSize got == some (got.length + 1)
  | _ => false

/-- FRAME_COMPLETE: the last CRC character of the frame arrives without an error (R159, R161, log 34). -/
def execFrameComplete (last : Byte) (s : State) : Result :=
  .next <|
    match s.line.rx with
    | .inFrame got => if receiverOn s = true ∧ awaitsLast s = true then gather last got (breakOver s) else s
    | _ => s

/-! ### Breaks and link resets (R160) -/

/-- A break begins: a frame in progress is abandoned, and the receiver enters HUNT (R160). -/
def beginBreak (s : State) : State :=
  let s1 := match s.line.rx with | .inFrame _ => abandon .hunt s | _ => setReceiver .hunt s
  setLine { s1.line with breakOn := true, resetRaised := false } s1

/-- BREAK: the line has stayed low for one character time (R160). -/
def execLineBreak (s : State) : Result := .next (if receiverOn s = true then beginBreak s else s)

/-- The number of frames the slots hold. -/
def slotCount (sl : Slots) : Nat := (if sl.s1.isSome then 1 else 0) + (if sl.s2.isSome then 1 else 0) + (if sl.s3.isSome then 1 else 0)

/-- The handler holds a BATCH_CLOSE. -/
def holdsClose (s : State) : Bool := (s.handler.current.map fun h => h.slot.kind) == some 0x23#8

/-- An open batch is discarded by a link reset, with its own notice (R30). A BATCH_CLOSE that the handler has taken is applied whole,
so the batch that it closes is left to it (R29). -/
def batchLinkReset (s : State) : State :=
  match s.batch.stage with
  | none => s
  | some b => if holdsClose s = true then s else offer .batchLinkReset b.tag (setStage none s)

/-- A link reset (R160). A reply handed over later for a request already taken is cut off by `lost`. Where the handler has taken a
BATCH_CLOSE, LINE/LINK_RESET is offered here, before the notices of the close: the model's choice (log 51). -/
def linkReset (s : State) : State :=
  let lost := slotCount s.line.slots
  let s1 := dropReplies s.line.waiting s
  let s2 := setLine { s1.line with rx := .hunt, slots := ⟨none, none, none⟩, waiting := [], mode := .normal, resetRaised := true } s1
  let s3 := { s2 with handler := { s2.handler with current := s2.handler.current.map fun h => { h with lost := true } } }
  offer .lineLinkReset lost (batchLinkReset s3)

/-- LINK_RESET: a break has lasted 200 ms; it is raised once for the break (R160). A LINK_RESET with no break under way tells of a
break whose beginning was not sent, so that comes first (log 21). -/
def execLinkReset (s : State) : Result :=
  .next <|
    if receiverOn s = false then s
    else if s.line.breakOn = false then linkReset (beginBreak s)
    else if s.line.resetRaised = true then s
    else linkReset s

/-! ### Taking a frame (R168, R169) -/

/-- How long ago an arrival stamp was issued, across the wrap (R162). -/
def stampAge (next stamp : Nat) : Nat := (next + 65535 - stamp) % 65536

/-- Each frame held, with the slots as they stand once it is taken. -/
def takings (sl : Slots) : List (Slot × Slots) :=
  [sl.s1.map fun f => (f, { sl with s1 := none }), sl.s2.map fun f => (f, { sl with s2 := none }),
    sl.s3.map fun f => (f, { sl with s3 := none })].filterMap id

/-- The taking of the frame with the oldest arrival stamp, if a slot holds a frame (R162, R168). -/
def oldestTaking (next : Nat) (sl : Slots) : Option (Slot × Slots) :=
  (takings sl).foldl (fun best t =>
    match best with
    | none => some t
    | some b => if stampAge next b.1.stamp < stampAge next t.1.stamp then some t else some b) none

/-- How a kept frame's request reached the part. -/
def slotVia (f : Slot) : Via := { addressing := f.addressing, tag := f.tag }

/-- The checks of R169 on a taken frame. A reading request that is not unit-addressed is ignored (R170), a refusal ends the request
at once (log 23), and any other becomes the current request. -/
def checkTaken (f : Slot) (s : State) : State :=
  if isReadingKind f.kind = true ∧ f.addressing ≠ .unit then s
  else
    match decodeRequest (slotVia f) f.kind f.payload with
    | .refuse code => finish (slotVia f) f.kind f.seq false (.refused code) s
    | .request _ => { s with handler := { s.handler with current := some { slot := f, lost := false } } }

/-- The handler may take a frame: it holds no request and no RESET_UNIT ALL waits (R168, R173). -/
def handlerFree (s : State) : Bool := s.handler.current.isNone && s.handler.reset == .none

/-- REQUEST_TAKE (R168, R169). -/
def execRequestTake (s : State) : Result :=
  .next <|
    if handlerFree s = true then
      match oldestTaking s.line.nextStamp s.line.slots with
      | none => s
      | some t => checkTaken t.1 (setLine { s.line with slots := t.2 } s)
    else s

/-! ### Sending replies (R164, R176) -/

def inFrame (s : State) : Bool :=
  match s.line.rx with
  | .inFrame _ => true
  | _ => false

/-- REPLY_START: the first reply waiting starts (R164). The receiver is off from here to REPLY_SENT; that its state item keeps its
value meanwhile is the model's choice (log 39). -/
def execReplyStart (s : State) : Result :=
  .next <|
    match s.line.waiting with
    | [] => s
    | r :: rest =>
      if receiverOn s = true ∧ inFrame s = false then
        setLine { s.line with waiting := rest, sending := some r, breakOn := false, resetRaised := false } s
      else s

/-- REPLY_WITHHELD: the window of the first reply waiting closes before it can start (R164). -/
def execReplyWithheld (s : State) : Result :=
  .next <|
    match s.line.waiting with
    | [] => s
    | r :: rest => dropReply r.carried (setLine { s.line with waiting := rest } s)

/-- The notices a STATUS reply carried are removed, and the overflow flag it carried set is cleared unless it was set again
(R176). -/
def collect (serials : List Nat) (overflow : Bool) (sets : Nat) (q : Notices) : Notices :=
  { q with
    queue := q.queue.filter fun n => !serials.contains n.serial,
    overflow := if overflow = true ∧ q.overflowSets = sets then false else q.overflow }

/-- The totals of one position reduced by the values a PANEL_REPORT reply carried (R143). -/
def reduceTotals (naks timeouts : Nat) (r : PanelRecord) : PanelRecord :=
  { r with naks := r.naks - naks, timeouts := r.timeouts - timeouts }

/-- What the sending of a reply acts on (R143, R166, R173, R176). -/
def actOnSent (c : Carried) (s : State) : State :=
  match c with
  | .nothing => s
  | .status serials overflow sets trunc crc busy =>
    { s with
      notices := collect serials overflow sets s.notices,
      line := { s.line with trunc := s.line.trunc - trunc, crc := s.line.crc - crc, busy := s.line.busy - busy } }
  | .panels naks timeouts =>
    { s with chain := { s.chain with
        recs := Per8.tabulate fun p => reduceTotals (naks.get p) (timeouts.get p) (s.chain.recs.get p) } }
  | .reset => { s with handler := { s.handler with reset := .due } }

/-- REPLY_SENT: the last character of the reply is sent, the receiver enters HUNT, and what the reply carried is acted on
(R164, R176). -/
def execReplySent (s : State) : Result :=
  .next <|
    match s.line.sending with
    | none => s
    | some r => actOnSent r.carried (setLine { s.line with sending := none, rx := .hunt } s)

/-! ### Requests (R157, R165) -/

/-- SET_GROUPS(group a, group b) (R157). -/
def setGroupsBody (a b : Byte) (s : State) : State × Answer :=
  match readGroup a, readGroup b with
  | some ga, some gb =>
    if a = b ∧ a ≠ 0#8 then (s, .refused .badField)
    else (setLine { s.line with groupA := ga, groupB := gb } s, done (num1 (orZero ga) ++ num1 (orZero gb)))
  | _, _ => (s, .refused .badField)

/-- SET_REPLY_MODE(mode) (R165): in SUPPRESSED the replies already waiting are discarded. -/
def setReplyModeBody (mode : Byte) (s : State) : State × Answer :=
  match mode.toNat with
  | 0 => (setLine { s.line with mode := .normal } s, done [replyModeByte .normal])
  | 1 =>
    let s1 := dropReplies s.line.waiting s
    (setLine { s1.line with mode := .suppressed, waiting := [] } s1, done [replyModeByte .suppressed])
  | _ => (s, .refused .badField)

/-- SET_GROUPS (R157). -/
def execSetGroups (v : Via) (a b : Byte) (s : State) : Result := request v (.setGroups v a b) (setGroupsBody a b) s

/-- SET_REPLY_MODE (R165). -/
def execSetReplyMode (v : Via) (mode : Byte) (s : State) : Result := request v (.setReplyMode v mode) (setReplyModeBody mode) s

end Sys2Proof.Machine
end

