-- ==== Sys2Proof/Machine/Overlay.lean ====
section
/-! DEFINITION. The Overlay Stack (spec/06): pushes, withdrawals, expiry, and the shown-since count. -/

namespace Sys2Proof.Machine

open Sys2Proof

/-- The most overlays the stack holds (R89). -/
def maxOverlays : Nat := 4

/-- The shown-since count wraps after 4,294,967,295 (R95). -/
def shownWrap : Nat := 4294967296

def setOverlays (o : Overlays) (s : State) : State := { s with overlays := o }

/-- The Overlay Stack requests a render, in RUN only (R96), and a frame may start (R117). -/
def overlayRender (s : State) : State := if s.board.mode = .run then settle (requestRender s) else s

def withoutId (id : Nat) (os : List Overlay) : List Overlay := os.filter fun o => o.id != id

/-- The record that a push shifts out: the bottom of a stack that still holds four (R91 step 2). -/
def shiftedOut (os : List Overlay) : Option Overlay := if os.length < maxOverlays then none else os.getLast?

/-- A push (R91): the record of the same id removed, the bottom shifted out of a full stack, the new record on top. -/
def pushed (o : Overlay) (os : List Overlay) : List Overlay :=
  let kept := withoutId o.id os
  o :: (if kept.length < maxOverlays then kept else kept.dropLast)

/-- A displaced record is reported (R91). -/
def offerDisplaced (o : Option Overlay) (s : State) : State :=
  match o with
  | none => s
  | some o => offer .overlayDisplaced o.id s

/-- PUSH_OVERLAY (R90, R91). -/
def pushOverlayBody (raw : RawOverlay) (s : State) : State × Answer :=
  match readOverlay raw with
  | none => (s, .refused .badField)
  | some o =>
    let out := shiftedOut (withoutId o.id s.overlays.records)
    let recs := pushed o s.overlays.records
    (overlayRender (offerDisplaced out (setOverlays { records := recs, shownSince := 0 } s)),
      done (num1 recs.length ++ flag1 (s.overlays.records.any fun q => q.id == o.id) ++ num1 (orZero (out.map fun q => q.id))))

/-- The record on top has this id. -/
def isTop (id : Nat) (os : List Overlay) : Bool := (os.head?.map fun o => o.id) == some id

/-- WITHDRAW_OVERLAY(id) (R92). -/
def withdrawBody (id : Nat) (s : State) : State × Answer :=
  if id = 0 then (s, .refused .badField)
  else if s.overlays.records.any (fun o => o.id == id) = false then (s, .refused .notFound)
  else
    let recs := withoutId id s.overlays.records
    let top := isTop id s.overlays.records
    let s1 := setOverlays { records := recs, shownSince := if top = true then 0 else s.overlays.shownSince } s
    (if top = true then overlayRender s1 else s1, done (num1 recs.length ++ flag1 top))

/-- LIST_OVERLAYS (R93, spec/13 section 13.3). -/
def reportOverlays (s : State) : Answer :=
  done (num1 s.overlays.records.length ++ num4 s.overlays.shownSince
    ++ s.overlays.records.flatMap fun o => num1 o.id ++ num2 o.remaining)

/-- The stack emptied by RESET_UNIT TABLES (R89). -/
def clearOverlays (s : State) : State := overlayRender (setOverlays Overlays.init s)

/-! ### Expiry (R94) -/

/-- The record's lifetime ends when the stack takes this tick. -/
def expiresNow (o : Overlay) : Bool := o.remaining == 1

/-- A record's remaining count after a tick that it survives; 0 stays 0. -/
def countDown (o : Overlay) : Overlay := { o with remaining := o.remaining - 1 }

/-- The Overlay Stack takes the internal tick (R94). -/
def overlayTick (s : State) : State :=
  let out := s.overlays.records.filter expiresNow
  let topOut := (s.overlays.records.head?.map expiresNow) == some true
  let s1 := setOverlays
    { records := (s.overlays.records.filter fun o => !expiresNow o).map countDown,
      shownSince := if topOut = true then 0 else s.overlays.shownSince } s
  let s2 := offerAll (out.map fun o => (.overlayExpired, o.id)) s1
  if topOut = true then overlayRender s2 else s2

/-! ### Sub-ticks (R95, R96) -/

/-- The Overlay Stack takes a sub-tick: the shown-since count rises, and a scrolling top requests a render. -/
def overlaySubTick (s : State) : State :=
  if s.overlays.records = [] then s
  else
    let s1 := setOverlays { s.overlays with shownSince := (s.overlays.shownSince + 1) % shownWrap } s
    if topScrolls s1 = true then overlayRender s1 else s1

/-- PUSH_OVERLAY (R90, R91). -/
def execPushOverlay (v : Via) (o : RawOverlay) (s : State) : Result :=
  request v (.pushOverlay v o) (pushOverlayBody o) s

/-- WITHDRAW_OVERLAY (R92). -/
def execWithdrawOverlay (v : Via) (id : Byte) (s : State) : Result :=
  request v (.withdrawOverlay v id) (withdrawBody id.toNat) s

/-- LIST_OVERLAYS (R93). -/
def execListOverlays (v : Via) (s : State) : Result := reading v (.listOverlays v) reportOverlays s

end Sys2Proof.Machine
end

