-- ==== Sys2Proof/Machine/Reset.lean ====
section
/-! DEFINITION. The three resets of the whole part: power-on, the reset pin, and a RESET_UNIT ALL that takes effect (R141, R155, R173). -/

namespace Sys2Proof.Machine

open Sys2Proof

/-- POWER_ON: the straps are read and every block takes its power-on state (R155). -/
def execPowerOn (straps : Straps) (s : State) : Result := .next (State.fresh straps .powerOn s.pending)

/-- RESET_PIN: a held request is abandoned unapplied, the straps are read again and every block takes its power-on state (R155,
R168). -/
def execResetPin (straps : Straps) (s : State) : Result := .next (State.fresh straps .resetPin s.pending)

/-- A RESET_UNIT ALL takes effect: one DARK is sent, and then every block takes its power-on state (R141, R173). A reply being sent at
that moment is sent whole (R164); it then acts on nothing, since what it carried has been reset (log 43). -/
def unitReset (straps : Straps) (s : State) : State :=
  let f := State.fresh straps .unitAll s.pending
  { f with
    chain := { f.chain with out := some .dark },
    line := { f.line with sending := s.line.sending.map fun r => { r with carried := .nothing } } }

/-- UNIT_RESET: takes place once the reply to RESET_UNIT ALL has been sent or dropped, and not before (R173, log 24). -/
def execUnitReset (straps : Straps) (s : State) : Result := .next (if s.handler.reset = .due then unitReset straps s else s)

end Sys2Proof.Machine
end

