-- ==== Sys2Proof/Machine/Stores.lean ====
section
/-! DEFINITION. The Phrase Store and the Font Store (spec/07): their pools and their requests. -/

namespace Sys2Proof.Machine

open Sys2Proof

/-! ### Phrases (R102 to R104) -/

def maxPhrases : Nat := 256
def maxCells : Nat := 12288
def maxVariant : Nat := 64

/-- The cells a phrase takes (R102). -/
def phraseCells (p : Phrase) : Nat := p.v0.length + p.v1.length + p.v2.length

/-- The phrase pool's used cells (R102). -/
def cellsUsed (ps : List Phrase) : Nat := (ps.map phraseCells).sum

/-- The cells of the phrase of an id, 0 when none is held (R103). -/
def cellsOf (id : Nat) (ps : List Phrase) : Nat := ((findPhrase id ps).map phraseCells).getD 0

/-- A phrase stored in ascending order of id, whole, in place of one of the same id (R103). -/
def putPhrase (p : Phrase) : List Phrase → List Phrase
  | [] => [p]
  | q :: qs => if p.id < q.id then p :: q :: qs else if p.id = q.id then p :: qs else q :: putPhrase p qs

def dropPhrase (id : Nat) (ps : List Phrase) : List Phrase := ps.filter fun p => p.id != id

/-- The number of phrases held and the cells used, as replies carry them. -/
def phraseFields (ps : List Phrase) : List Byte := num2 ps.length ++ num2 (cellsUsed ps)

/-- The first check of SET_PHRASE (R103 step 1). -/
def phraseOk (id : Nat) (a b c : List Byte) : Bool :=
  phraseIdOk id && decide (a.length ≤ maxVariant ∧ b.length ≤ maxVariant ∧ c.length ≤ maxVariant ∧ 0 < a.length + b.length + c.length)

/-- SET_PHRASE (R103). -/
def setPhraseBody (id : Nat) (a b c : List Byte) (s : State) : State × Answer :=
  let p : Phrase := { id := id, v0 := a, v1 := b, v2 := c }
  if phraseOk id a b c = false then (s, .refused .badField)
  else if findPhrase id s.phrases = none ∧ maxPhrases ≤ s.phrases.length then (s, .refused .tableFull)
  else if maxCells < cellsUsed s.phrases + phraseCells p - cellsOf id s.phrases then (s, .refused .noSpace)
  else
    let ps := putPhrase p s.phrases
    ({ s with phrases := ps }, done (phraseFields ps))

/-- DROP_PHRASE (R104). -/
def dropPhraseBody (id : Nat) (s : State) : State × Answer :=
  if phraseIdOk id = false then (s, .refused .badField)
  else if findPhrase id s.phrases = none then (s, .refused .notFound)
  else
    let ps := dropPhrase id s.phrases
    ({ s with phrases := ps }, done (phraseFields ps))

/-! ### Fonts (R107 to R109) -/

def maxBitmapBytes : Nat := 24576

/-- The bytes of a glyph's bitmap (R107). -/
def glyphBytes (h w : Nat) : Nat := h * ((w + 7) / 8)

/-- The bytes a font uses; an empty font uses none (R107). -/
def fontBytes : Option Font → Nat
  | none => 0
  | some f => (f.glyphs.map fun g => glyphBytes f.height g.width).sum

/-- The bitmap pool's used bytes (R107). -/
def bytesUsed (fs : Fonts) : Nat := fontBytes fs.f1 + fontBytes fs.f2 + fontBytes fs.f3

def setUploaded (fs : Fonts) (id : Nat) (f : Option Font) : Fonts :=
  match id with
  | 1 => { fs with f1 := f }
  | 2 => { fs with f2 := f }
  | 3 => { fs with f3 := f }
  | _ => fs

/-- A glyph stored in ascending order of code, in place of one of the same code (R108). -/
def putGlyph (g : Glyph) : List Glyph → List Glyph
  | [] => [g]
  | q :: qs => if g.code < q.code then g :: q :: qs else if g.code = q.code then g :: qs else q :: putGlyph g qs

/-- The glyphs of a run: one per width, for consecutive codes, each taking its bytes of the bitmaps in order (R108). -/
def readGlyphs (h : Nat) : Nat → List Byte → List Byte → List Glyph
  | _, [], _ => []
  | code, w :: ws, bits =>
    let n := glyphBytes h w.toNat
    { code := code, width := w.toNat, bitmap := bits.take n } :: readGlyphs h (code + 1) ws (bits.drop n)

/-- The bytes of the glyphs a font holds for the codes of a run (R108 step 4). -/
def bytesForRun (f : Option Font) (first count : Nat) : Nat :=
  match f with
  | none => 0
  | some f => ((f.glyphs.filter fun g => decide (first ≤ g.code ∧ g.code < first + count)).map fun g => glyphBytes f.height g.width).sum

/-- The bytes of the glyphs given (R108). -/
def runBytes (h : Nat) (widths : List Byte) : Nat := (widths.map fun w => glyphBytes h w.toNat).sum

/-- The first check of SET_GLYPHS (R108 step 1). -/
def glyphFieldsOk (font h sp first : Nat) (widths : List Byte) : Bool :=
  decide (1 ≤ font ∧ font ≤ 3 ∧ 5 ≤ h ∧ h ≤ 24 ∧ sp ≤ 3 ∧ 1 ≤ widths.length ∧ widths.length ≤ 32 ∧ first + widths.length - 1 ≤ 255)
    && widths.all fun w => decide (1 ≤ w.toNat ∧ w.toNat ≤ 16)

/-- The height and the spacing are the font's own, when it is not empty (R108 step 2). -/
def fontMatches (f : Option Font) (h sp : Nat) : Bool :=
  match f with
  | none => true
  | some f => f.height == h && f.spacing == sp

/-- A font with a run of glyphs stored (R108). -/
def storeRun (f : Option Font) (h sp : Nat) (gs : List Glyph) : Font :=
  { height := h, spacing := sp, glyphs := gs.foldl (fun acc g => putGlyph g acc) ((f.map fun f => f.glyphs).getD []) }

/-- SET_GLYPHS (R108). -/
def setGlyphsBody (font h sp first : Nat) (widths bitmaps : List Byte) (s : State) : State × Answer :=
  let f := uploaded s.fonts font
  if glyphFieldsOk font h sp first widths = false then (s, .refused .badField)
  else if fontMatches f h sp = false then (s, .refused .badField)
  else if bitmaps.length ≠ runBytes h widths then (s, .refused .badLength)
  else if maxBitmapBytes < bytesUsed s.fonts + runBytes h widths - bytesForRun f first widths.length then (s, .refused .noSpace)
  else
    let nf := storeRun f h sp (readGlyphs h first widths bitmaps)
    let fs := setUploaded s.fonts font (some nf)
    ({ s with fonts := fs }, done (num2 nf.glyphs.length ++ num2 (fontBytes (some nf)) ++ num2 (bytesUsed fs)))

/-- DROP_FONT (R109). -/
def dropFontBody (font : Nat) (s : State) : State × Answer :=
  if font = 0 ∨ 3 < font then (s, .refused .badField)
  else if uploaded s.fonts font = none then (s, .refused .notFound)
  else
    let fs := setUploaded s.fonts font none
    ({ s with fonts := fs }, done (num2 (bytesUsed fs)))

/-! ### STORE_REPORT (R105) -/

/-- One font's part of the STORE_REPORT reply; an empty font's height and spacing are sent as 0 (Table 13-4). -/
def fontFields : Option Font → List Byte
  | none => flag1 true ++ num1 0 ++ num1 0 ++ num2 0 ++ num2 0
  | some f => flag1 false ++ num1 f.height ++ num1 f.spacing ++ num2 f.glyphs.length ++ num2 (fontBytes (some f))

/-- STORE_REPORT (R105). -/
def reportStores (s : State) : Answer :=
  done (phraseFields s.phrases ++ fontFields s.fonts.f1 ++ fontFields s.fonts.f2 ++ fontFields s.fonts.f3 ++ num2 (bytesUsed s.fonts))

/-- SET_PHRASE (R103). -/
def execSetPhrase (v : Via) (id : BitVec 16) (v0 v1 v2 : List Byte) (s : State) : Result :=
  request v (.setPhrase v id v0 v1 v2) (setPhraseBody id.toNat v0 v1 v2) s

/-- DROP_PHRASE (R104). -/
def execDropPhrase (v : Via) (id : BitVec 16) (s : State) : Result :=
  request v (.dropPhrase v id) (dropPhraseBody id.toNat) s

/-- SET_GLYPHS (R108). -/
def execSetGlyphs (v : Via) (font height spacing first : Byte) (widths bitmaps : List Byte) (s : State) : Result :=
  request v (.setGlyphs v font height spacing first widths bitmaps)
    (setGlyphsBody font.toNat height.toNat spacing.toNat first.toNat widths bitmaps) s

/-- DROP_FONT (R109). -/
def execDropFont (v : Via) (font : Byte) (s : State) : Result :=
  request v (.dropFont v font) (dropFontBody font.toNat) s

/-- STORE_REPORT (R105). -/
def execStoreReport (v : Via) (s : State) : Result := reading v (.storeReport v) reportStores s

end Sys2Proof.Machine
end

