-- ==== Sys2Proof/Machine/System.lean ====
section
/-! DEFINITION. The requests that concern the part as a whole (spec/12): IDENTIFY, STATUS, RESET_UNIT and ENABLE_NOTICES. -/

namespace Sys2Proof.Machine

open Sys2Proof

def vendorCode : Nat := 0x0A3D
def partCode : Nat := 2416
def revision : Nat := 1

/-- IDENTIFY (R171). The vendor and part codes take two bytes and the revision one (log 30). -/
def reportIdentity (s : State) : Answer :=
  done (num2 vendorCode ++ num2 partCode ++ num1 revision ++ num1 (orZero (unitAddress s.line.straps)) ++ num1 (orZero s.line.groupA)
    ++ num1 (orZero s.line.groupB) ++ [resetCauseByte s.unit.cause] ++ num4 s.unit.uptime)

/-- The most notices a STATUS reply carries (R172). -/
def maxCarried : Nat := 4

/-- A notice record: class, code, argument and stamp (section 13.4). -/
def noticeBytes (n : Notice) : List Byte := num1 (classNum n.cls) ++ num1 n.code ++ num2 n.arg ++ num2 n.stamp

/-- The notices a STATUS reply carries: the oldest, up to four (R172). -/
def carriedNotices (s : State) : List Notice := s.notices.queue.take maxCarried

/-- The open batch's tag, 0 while closed (Table 13-8). -/
def openTag (s : State) : Nat := orZero (s.batch.stage.map fun b => b.tag)

/-- The top overlay's id, 0 when none (Table 13-8). -/
def topId (s : State) : Nat := orZero (s.overlays.records.head?.map fun o => o.id)

/-- The current page, or 0xFF (Table 13-4). -/
def currentByte (s : State) : Byte := (s.board.current.map fun i => BitVec.ofNat 8 i.val).getD 0xFF#8

/-- The bytes of Table 13-8 after the result code. -/
def statusFields (s : State) : List Byte :=
  [boardModeByte s.board.mode, frameStateByte s.coder.state, clockStateByte s.clock.state] ++ num2 s.clock.day ++ num3 (seconds s.clock)
    ++ [supStateByte s.sup.state] ++ num2 s.sup.remaining ++ flag1 s.batch.stage.isSome ++ num1 (openTag s)
    ++ num1 s.table.records.length ++ num1 s.overlays.records.length ++ num1 (topId s) ++ [currentByte s] ++ num1 s.light.applied
    ++ Pos.all.map (fun p => panelStateByte (s.chain.recs.get p).state)
    ++ num1 s.line.trunc ++ num1 s.line.crc ++ num1 s.line.busy ++ flag1 s.notices.overflow ++ num1 s.notices.queue.length
    ++ (carriedNotices s).flatMap noticeBytes

/-- STATUS (R172), with what the sending of its reply acts on (R166, R176). -/
def reportStatus (s : State) : Answer :=
  .done (statusFields s)
    (.status ((carriedNotices s).map fun n => n.serial) s.notices.overflow s.notices.overflowSets s.line.trunc s.line.crc s.line.busy)

/-- RESET_UNIT(ALL): answered DONE; the reset waits for the reply to be sent or dropped (R173). -/
def resetAllBody (s : State) : State × Answer :=
  ({ s with handler := { s.handler with reset := .reply } }, .done [] .reset)

/-- RESET_UNIT(TABLES): the live table, an open batch and the overlay stack are emptied by the rules of their blocks (R173, R15, R19,
R89). -/
def resetTablesBody (s : State) : State × Answer :=
  (clearOverlays (setStage none (clearTable { s with unit := { s.unit with cause := .unitTables } })), done [])

/-- ENABLE_NOTICES(class set) (R175). -/
def enableNoticesBody (m : BitVec 16) (s : State) : State × Answer :=
  if 512 ≤ m.toNat then (s, .refused .badField)
  else
    let e := enableSet s.notices.enables m
    ({ s with notices := { s.notices with enables := e } }, done (num2 (enableMask e)))

/-- IDENTIFY (R171). -/
def execIdentify (v : Via) (s : State) : Result := reading v (.identify v) reportIdentity s

/-- STATUS (R172). -/
def execStatus (v : Via) (s : State) : Result := reading v (.status v) reportStatus s

/-- RESET_UNIT with scope ALL (R173). -/
def execResetUnitAll (v : Via) (s : State) : Result := request v (.resetUnitAll v) resetAllBody s

/-- RESET_UNIT with scope TABLES (R173). -/
def execResetUnitTables (v : Via) (s : State) : Result := request v (.resetUnitTables v) resetTablesBody s

/-- ENABLE_NOTICES (R175). -/
def execEnableNotices (v : Via) (classes : BitVec 16) (s : State) : Result :=
  request v (.enableNotices v classes) (enableNoticesBody classes) s

end Sys2Proof.Machine
end

