-- ==== Sys2Proof/Machine/Tick.lean ====
section
/-! DEFINITION. The internal tick and the sub-tick as they reach each block (R52, R39), and the events that come about at a tick, each the owning block's taking of that tick (log 3). -/

namespace Sys2Proof.Machine

open Sys2Proof

/-- The uptime's top value (R171). -/
def maxUptime : Nat := 4294967295

/-- The uptime takes the internal tick (R171). -/
def uptimeTick (s : State) : State := { s with unit := { s.unit with uptime := satInc maxUptime s.unit.uptime } }

/-- A block takes the internal tick. -/
def blockTick (b : TickBlock) (s : State) : State :=
  match b with
  | .clock => clockTick s
  | .table => tableTick s
  | .batch => batchTick s
  | .supervisor => supTick s
  | .overlays => overlayTick s
  | .composer => composerTick s
  | .chain => chainTick s
  | .uptime => uptimeTick s

/-- The blocks in the order used for those that a tick's operand does not name. -/
def defaultOrder : List TickBlock := [.clock, .table, .batch, .supervisor, .overlays, .composer, .chain, .uptime]

/-- Every block once: those named, in the order of their first naming, then the others (log 4). -/
def completeOrder (order : List TickBlock) : List TickBlock :=
  (order ++ defaultOrder).foldl (fun acc b => if acc.contains b then acc else acc ++ [b]) []

/-- The blocks that the tick has still to reach, in order. -/
def tickBlocks (order : List TickBlock) (s : State) : List TickBlock :=
  (completeOrder order).filter fun b => !s.tickTaken.contains b

/-- The internal tick: each block that has not taken it ahead takes it, in order, and the tick is over (R52, logs 3 and 4). -/
def internalTick (order : List TickBlock) (s : State) : State :=
  { (tickBlocks order s).foldl (fun s b => blockTick b s) s with tickTaken := [] }

/-- INTERNAL_TICK (R52). -/
def execInternalTick (order : List TickBlock) (s : State) : Result := .next (internalTick order s)

/-- SUB_TICK: the Service Clock takes it, unless it has taken it ahead, and then the Overlay Stack (R39, R95, logs 3 and 5). -/
def execSubTick (withTick : Bool) (s : State) : Result :=
  let s1 := if s.subTaken = true then s else clockSubTick withTick s
  .next { overlaySubTick s1 with subTaken := false }

/-- A block takes the coming internal tick ahead, where the event happens at it; otherwise nothing happens (logs 3 and 7). -/
def takeAhead (b : TickBlock) (happens : State → Bool) (s : State) : State :=
  if s.tickTaken.contains b = false ∧ happens s = true then
    let s1 := blockTick b s
    { s1 with tickTaken := b :: s1.tickTaken }
  else s

/-- CLOCK_END_OF_DAY_HOLD: the Service Clock takes a sub-tick at which it reaches the hold (R40). -/
def execClockEndOfDayHold (withTick : Bool) (s : State) : Result :=
  .next (if s.subTaken = false ∧ holdReached withTick s = true then { clockSubTick withTick s with subTaken := true } else s)

/-- CLOCK_COASTING (R41). -/
def execClockCoasting (s : State) : Result := .next (takeAhead .clock (fun s => coasts s.clock) s)

/-- CLOCK_LAPSED (R41). -/
def execClockLapsed (s : State) : Result := .next (takeAhead .clock (fun s => lapsesByAge s.clock) s)

/-- BATCH_WINDOW (R24). -/
def execBatchWindow (s : State) : Result :=
  .next (takeAhead .batch (fun s => match s.batch.stage with | none => false | some b => windowEnds b) s)

/-- SUPERVISOR_EXPIRED (R33). -/
def execSupervisorExpired (s : State) : Result := .next (takeAhead .supervisor supEnds s)

/-- OVERLAY_EXPIRED (R94). -/
def execOverlayExpired (s : State) : Result := .next (takeAhead .overlays (fun s => s.overlays.records.any expiresNow) s)

/-- DWELL_EXPIRY (R65). -/
def execDwellExpiry (s : State) : Result := .next (takeAhead .composer dwellEnds s)

/-- PROBE_ROUND_DUE: the chain takes ahead a tick at which the probe count stands at PROBE_EVERY or above, also with no position
FAULTED, where the count becomes 0 and no round is due (R139, log 49). -/
def execProbeRoundDue (s : State) : Result :=
  .next (takeAhead .chain (fun s => decide (s.chain.probeEvery ≤ probeCountNext s.chain)) s)

end Sys2Proof.Machine
end

