-- ==== Sys2Proof/Machine/Dispatch.lean ====
section
/-! DEFINITION. The meaning of every command: one arm for each row of spec/opcode_table.json, each one call. -/

namespace Sys2Proof.Machine

open Sys2Proof

def exec (i : Instr) (s : State) : Host.Outcome State Fault Refusal :=
  match i with
  | .powerOn straps => Sys2Proof.Machine.execPowerOn straps s
  | .resetPin straps => Sys2Proof.Machine.execResetPin straps s
  | .internalTick order => Sys2Proof.Machine.execInternalTick order s
  | .subTick withTick => Sys2Proof.Machine.execSubTick withTick s
  | .clockEndOfDayHold withTick => Sys2Proof.Machine.execClockEndOfDayHold withTick s
  | .clockCoasting => Sys2Proof.Machine.execClockCoasting s
  | .clockLapsed => Sys2Proof.Machine.execClockLapsed s
  | .batchWindow => Sys2Proof.Machine.execBatchWindow s
  | .supervisorExpired => Sys2Proof.Machine.execSupervisorExpired s
  | .overlayExpired => Sys2Proof.Machine.execOverlayExpired s
  | .dwellExpiry => Sys2Proof.Machine.execDwellExpiry s
  | .probeRoundDue => Sys2Proof.Machine.execProbeRoundDue s
  | .probeRoundStart => Sys2Proof.Machine.execProbeRoundStart s
  | .luxInPulse => Sys2Proof.Machine.execLuxInPulse s
  | .lightWindowEnd => Sys2Proof.Machine.execLightWindowEnd s
  | .receiveCharacter data parity stop => Sys2Proof.Machine.execReceiveCharacter data parity stop s
  | .lineIdleSeen => Sys2Proof.Machine.execLineIdleSeen s
  | .frameGap => Sys2Proof.Machine.execFrameGap s
  | .lineBreak => Sys2Proof.Machine.execLineBreak s
  | .linkReset => Sys2Proof.Machine.execLinkReset s
  | .frameComplete last => Sys2Proof.Machine.execFrameComplete last s
  | .requestTake => Sys2Proof.Machine.execRequestTake s
  | .replyStart => Sys2Proof.Machine.execReplyStart s
  | .replyWithheld => Sys2Proof.Machine.execReplyWithheld s
  | .replySent => Sys2Proof.Machine.execReplySent s
  | .unitReset straps => Sys2Proof.Machine.execUnitReset straps s
  | .identify v => Sys2Proof.Machine.execIdentify v s
  | .status v => Sys2Proof.Machine.execStatus v s
  | .resetUnitAll v => Sys2Proof.Machine.execResetUnitAll v s
  | .resetUnitTables v => Sys2Proof.Machine.execResetUnitTables v s
  | .enableNotices v classes => Sys2Proof.Machine.execEnableNotices v classes s
  | .setGroups v a b => Sys2Proof.Machine.execSetGroups v a b s
  | .setReplyMode v mode => Sys2Proof.Machine.execSetReplyMode v mode s
  | .timeMark v day seconds sixteenths => Sys2Proof.Machine.execTimeMark v day seconds sixteenths s
  | .setClockRules v k tol coast lapse => Sys2Proof.Machine.execSetClockRules v k tol coast lapse s
  | .readClock v => Sys2Proof.Machine.execReadClock v s
  | .batchOpen v tag mode => Sys2Proof.Machine.execBatchOpen v tag mode s
  | .putDeparture v d => Sys2Proof.Machine.execPutDeparture v d s
  | .dropDeparture v trip => Sys2Proof.Machine.execDropDeparture v trip s
  | .batchClose v tag => Sys2Proof.Machine.execBatchClose v tag s
  | .setBatchWindows v gap total => Sys2Proof.Machine.execSetBatchWindows v gap total s
  | .setSupervisor v period action hold arm => Sys2Proof.Machine.execSetSupervisor v period action hold arm s
  | .readDeparture v trip => Sys2Proof.Machine.execReadDeparture v trip s
  | .listDepartures v start => Sys2Proof.Machine.execListDepartures v start s
  | .setRetirement v margin => Sys2Proof.Machine.execSetRetirement v margin s
  | .setBoard v width height count => Sys2Proof.Machine.execSetBoard v width height count s
  | .enumerationStart => Sys2Proof.Machine.execEnumerationStart s
  | .enumerationComplete raw => Sys2Proof.Machine.execEnumerationComplete raw s
  | .enumerationTimeout => Sys2Proof.Machine.execEnumerationTimeout s
  | .setPanel v p => Sys2Proof.Machine.execSetPanel v p s
  | .setMode v mode => Sys2Proof.Machine.execSetMode v mode s
  | .setPage v index dwell language skip lines => Sys2Proof.Machine.execSetPage v index dwell language skip lines s
  | .queryLine v index => Sys2Proof.Machine.execQueryLine v index s
  | .setCountdown v c => Sys2Proof.Machine.execSetCountdown v c s
  | .pushOverlay v o => Sys2Proof.Machine.execPushOverlay v o s
  | .withdrawOverlay v id => Sys2Proof.Machine.execWithdrawOverlay v id s
  | .listOverlays v => Sys2Proof.Machine.execListOverlays v s
  | .setPhrase v id v0 v1 v2 => Sys2Proof.Machine.execSetPhrase v id v0 v1 v2 s
  | .dropPhrase v id => Sys2Proof.Machine.execDropPhrase v id s
  | .setGlyphs v font height spacing first widths bitmaps => Sys2Proof.Machine.execSetGlyphs v font height spacing first widths bitmaps s
  | .dropFont v font => Sys2Proof.Machine.execDropFont v font s
  | .storeReport v => Sys2Proof.Machine.execStoreReport v s
  | .setPalette v first entries => Sys2Proof.Machine.execSetPalette v first entries s
  | .setChainRules v retry fault probe => Sys2Proof.Machine.execSetChainRules v retry fault probe s
  | .panelReport v => Sys2Proof.Machine.execPanelReport v s
  | .setBrightness v b => Sys2Proof.Machine.execSetBrightness v b s
  | .setLightCurve v c => Sys2Proof.Machine.execSetLightCurve v c s
  | .readLight v => Sys2Proof.Machine.execReadLight v s
  | .codingComplete => Sys2Proof.Machine.execCodingComplete s
  | .deliveryStart => Sys2Proof.Machine.execDeliveryStart s
  | .answerAck raw => Sys2Proof.Machine.execAnswerAck raw s
  | .answerNak raw => Sys2Proof.Machine.execAnswerNak raw s
  | .answerTimeout => Sys2Proof.Machine.execAnswerTimeout s
  | .deliveryEnd => Sys2Proof.Machine.execDeliveryEnd s

end Sys2Proof.Machine
end

