-- ==== Sys2Proof/Machine/Panel.lean ====
section
/-! DEFINITION. What spec/09 and R179 say a panel does with a packet: taking a position, decoding rows, answering, showing and going dark. The panels are outside the part (spec/00 section 3.2), so nothing here is part of State; statements use it (log 29). -/

namespace Sys2Proof.Machine

open Sys2Proof

/-- A packet with a one-byte body (Tables 13-9 and 13-10). -/
def singlePacket (kind b : Byte) : List Byte := [kind, 0#8, 1#8, b] ++ bytes16 (crc16 [kind, 0#8, 1#8, b])

/-! ### Decoding rows (R179) -/

/-- The pixels of a unit: the index of its high four bits, its length − 1 in the low four (Table 13-11). -/
def unitPixels (b : Byte) : List Pixel := List.replicate ((b.extractLsb' 0 4).toNat + 1) (b.extractLsb' 4 4)

/-- The two pixels of a LITERAL byte, the left one in the high four bits. -/
def bytePixels (b : Byte) : List Pixel := [b.extractLsb' 4 4, b.extractLsb' 0 4]

/-- One row of width `w` at the front of a body, and what is left (R179). -/
def decodeRow (w : Nat) (body : List Byte) : Option (List Pixel × List Byte) :=
  match body with
  | h :: rest =>
    if h = 0x00#8 then
      match rest with
      | u :: rest =>
        let px := (rest.take u.toNat).flatMap unitPixels
        if u.toNat ≤ rest.length ∧ px.length = w then some (px, rest.drop u.toNat) else none
      | [] => none
    else if h = 0x01#8 then
      if w / 2 ≤ rest.length then some ((rest.take (w / 2)).flatMap bytePixels, rest.drop (w / 2)) else none
    else none
  | [] => none

/-- A body that holds exactly `n` rows of width `w`. -/
def decodeRows (w : Nat) : Nat → List Byte → Option (List (List Pixel))
  | 0, body => if body = [] then some [] else none
  | n + 1, body =>
    match decodeRow w body with
    | some (px, rest) => (decodeRows w n rest).map fun rs => px :: rs
    | none => none

/-! ### A panel -/

/-- A panel: its position if it holds one, its size and scan ratio, its drive levels, the rows it shows, and the pending rows of one
frame number, by stripe (R131, R138). -/
structure Panel where
  position : Option Byte
  width    : Nat
  height   : Nat
  scan     : Nat
  drive    : List RGB
  rows     : List (List Pixel)
  pending  : Option (Byte × List (Nat × List (List Pixel)))
deriving DecidableEq, Repr

/-- What a panel does with a packet: its state after, the bytes it sends on, and the bytes of its answer. -/
structure PanelStep where
  panel   : Panel
  onward  : List Byte
  answer  : Option (List Byte)
deriving DecidableEq, Repr

/-- The layout of Table 13-9: kind, body, and whether the check holds over a body of the length given. -/
structure Parsed where
  kind  : Byte
  body  : List Byte
  sound : Bool
deriving DecidableEq, Repr

def parsePacket : List Byte → Option Parsed
  | k :: l1 :: l0 :: rest =>
    let n := (be16 l1 l0).toNat
    some { kind := k, body := rest.take n, sound := rest.drop n == bytes16 (crc16 ([k, l1, l0] ++ rest.take n)) }
  | _ => none

/-- The position an addressed packet carries: the second byte of a PALETTE or STRIPE body, the first of a PROBE (Table 13-10). Where the
body is too short to hold one, the packet is taken as addressed to no panel, so that none answers it: the model's choice (log 54). -/
def addressOf (p : Parsed) : Option Byte :=
  if p.kind = 0x02#8 ∨ p.kind = 0x03#8 then p.body[1]? else if p.kind = 0x05#8 then p.body[0]? else none

/-- The pending rows of frame `f`; those of another frame number are discarded (R138). -/
def pendingOf (f : Byte) (p : Panel) : List (Nat × List (List Pixel)) :=
  match p.pending with
  | some (g, rs) => if g = f then rs else []
  | none => []

/-- 16 drive levels from 48 bytes, in index order (R179). -/
def readDrive : List Byte → List RGB
  | r :: g :: b :: rest => ⟨r, g, b⟩ :: readDrive rest
  | _ => []

/-- An addressed packet with a sound check, taken by the panel it names; none when it cannot be taken (R138, R179). That a STRIPE whose
number lies beyond the panel's stripes cannot be taken is the model's choice (log 44). -/
def takePacket (pk : Parsed) (p : Panel) : Option Panel :=
  match pk.kind.toNat, pk.body with
  | 2, f :: _ :: levels =>
    if levels.length = 48 then some { p with drive := readDrive levels, pending := some (f, pendingOf f p) } else none
  | 3, f :: _ :: n :: body =>
    if n.toNat < p.height / 8 then
      (decodeRows p.width 8 body).map fun rs =>
        { p with pending := some (f, (n.toNat, rs) :: (pendingOf f p).filter fun e => e.1 != n.toNat) }
    else none
  | 5, [_] => some p
  | _, _ => none

/-- The row shown after SHOW: the pending row of its order position, else the row shown before (R122, R123, R138). -/
def shownRow (p : Panel) (pend : List (Nat × List (List Pixel))) (r : Nat) : List Pixel :=
  let order := (List.range p.height).find? fun i => scanRow p.height p.scan i == r
  match order with
  | none => p.rows.getD r []
  | some i =>
    match pend.find? fun e => e.1 == i / 8 with
    | some e => e.2.getD (i % 8) (p.rows.getD r [])
    | none => p.rows.getD r []

/-- A SHOW whose set names the panel shows its pending rows of that frame; any other SHOW discards them (R138). That pending rows of
another frame number are discarded at a SHOW that names the panel is the model's choice (log 53). -/
def takeShow (f set pos : Byte) (p : Panel) : Panel :=
  if 1 ≤ pos.toNat ∧ set.getLsbD (pos.toNat - 1) = true then
    { p with rows := (List.range p.height).map (shownRow p (pendingOf f p)), pending := none }
  else { p with pending := none }

/-- DARK: drive levels 0, pending rows discarded, every row index 0, the position kept (R141). -/
def takeDark (p : Panel) : Panel :=
  { p with drive := List.replicate 16 ⟨0#8, 0#8, 0#8⟩, rows := List.replicate p.height (List.replicate p.width 0#4), pending := none }

/-- A panel without a position passes every packet on, but for an ENUMERATE, whose number it takes (R131). The spec leaves six points
open, and these are the model's choices: an ENUMERATE carrying 255 is sent on carrying 0 (log 45); an ENUMERATE, SHOW or DARK whose check
fails or whose body has the wrong length is passed on unchanged and changes nothing (log 46); a packet addressed to the panel itself is
passed on too (log 47); a PALETTE or STRIPE answered NAK leaves the pending rows, whatever its frame number (log 48); so does one
addressed to another panel (log 50); a PALETTE, STRIPE or PROBE too short to hold a position, a packet of no kind that a panel takes, and
bytes too few for a packet are passed on unanswered (log 54). -/
def panelStep (raw : List Byte) (p : Panel) : PanelStep :=
  match parsePacket raw with
  | none => { panel := p, onward := raw, answer := none }
  | some pk =>
    if pk.kind = 0x01#8 then
      match pk.body with
      | [n] =>
        if pk.sound = true then { panel := { p with position := some n }, onward := packetBytes (.enumerate (n + 1#8)), answer := none }
        else { panel := p, onward := raw, answer := none }
      | _ => { panel := p, onward := raw, answer := none }
    else
      match p.position with
      | none => { panel := p, onward := raw, answer := none }
      | some pos =>
        if addressOf pk = some pos then
          match (if pk.sound = true then takePacket pk p else none) with
          | some q => { panel := q, onward := raw, answer := some (singlePacket 0x81#8 pos) }
          | none => { panel := p, onward := raw, answer := some (singlePacket 0x82#8 pos) }
        else if pk.sound = false then { panel := p, onward := raw, answer := none }
        else
          match pk.kind.toNat, pk.body with
          | 4, [f, set] => { panel := takeShow f set pos p, onward := raw, answer := none }
          | 6, [] => { panel := takeDark p, onward := raw, answer := none }
          | _, _ => { panel := p, onward := raw, answer := none }

end Sys2Proof.Machine
end

