-- ==== Sys2Proof/Safety.lean ====
section
/-! DEFINITION. What holds of every state the part can be in: one predicate for each group of blocks, the ranges the spec's tables give, and the outcomes that statements compare with. -/

namespace Sys2Proof.Machine

open Sys2Proof

/-! ### The Departure Table and the Batch Stage (R4, R5, R19, R22, R23) -/

/-- The live table stands in strictly ascending (E, trip id), holds no trip id twice and at most 96 records. -/
def TableOk (t : Table) : Prop :=
  t.records.Pairwise (fun a b => comesBefore a.dep b.dep = true) ∧ (t.records.map fun r => r.dep.trip).Nodup
    ∧ t.records.length ≤ maxLive ∧ 30 ≤ t.retireAfter ∧ t.retireAfter ≤ 600

/-- A staged set holds each trip id once, at most 96 records; a change list holds each once, at most 48 entries. -/
def StagedOk : Staged → Prop
  | .replace set => set.Pairwise (fun a b => a.trip < b.trip) ∧ set.length ≤ maxStaged
  | .merge cs => (cs.map changeTrip).Nodup ∧ cs.length ≤ maxChanges

/-- The window lengths lie in their ranges, and an open batch has a tag, time left in both windows and a collection in order. -/
def BatchOk (b : BatchStage) : Prop :=
  1 ≤ b.g ∧ b.g ≤ 30 ∧ 5 ≤ b.w ∧ b.w ≤ 120
    ∧ ∀ x, b.stage = some x → 1 ≤ x.tag ∧ x.tag ≤ 255 ∧ 1 ≤ x.gap ∧ x.gap ≤ 30 ∧ 1 ≤ x.total ∧ x.total ≤ 120 ∧ StagedOk x.staged

/-! ### The Freshness Supervisor (R31 to R35) -/

/-- ARMED has 1 to P seconds left, and the other states have 0. -/
def SupervisorOk (p : Supervisor) : Prop :=
  10 ≤ p.period ∧ p.period ≤ 900 ∧ (p.state = .armed → 1 ≤ p.remaining ∧ p.remaining ≤ p.period) ∧ (p.state ≠ .armed → p.remaining = 0)

/-! ### The Service Clock (Table 3-1) -/

/-- The clock's items lie in their ranges, the pending slew within the tolerance, and agreeing marks are counted in ACQUIRING only. -/
def ClockOk (c : Clock) : Prop :=
  c.value ≤ holdValue ∧ c.slew.natAbs ≤ c.tol * 16 ∧ (c.state ≠ .acquiring → c.agree = 0) ∧ c.agree ≤ 3 ∧ c.day ≤ 65535 ∧ c.age ≤ 65535
    ∧ 1 ≤ c.k ∧ c.k ≤ 4 ∧ 1 ≤ c.tol ∧ c.tol ≤ 8 ∧ 30 ≤ c.coastAfter ∧ c.coastAfter ≤ 600 ∧ 60 ≤ c.lapseAfter ∧ c.lapseAfter ≤ 7200

/-! ### The board (spec/04) -/

/-- A page as SET_PAGE can store it on a canvas of this size (R61, R63). -/
def PageOk (w h : Nat) (p : Page) : Prop :=
  2 ≤ p.dwell ∧ p.dwell ≤ 60 ∧ p.language ≤ 2 ∧ 1 ≤ p.lines.length ∧ p.lines.length ≤ 8 ∧ linesApart p.lines = true
    ∧ ∀ l ∈ p.lines, 1 ≤ l.height ∧ 1 ≤ l.width ∧ l.x + l.width ≤ w ∧ l.y + l.height ≤ h ∧ l.font ≤ 3

/-- A line record's content is of the kind of its line (Table 4-5). -/
def contentFits : LineKind → LineContent → Prop
  | .departure .., .departure .. => True
  | .clock .., .clock .. => True
  | .phrase i _, .phrase j => i = j
  | .band i, .band j => i = j
  | _, _ => False

/-- The canvas has the size declared, placed positions are declared ones and their regions lie apart within the canvas; the defined
pages fit it, and the current page is one of them, none only while no page is defined. The dwell remaining is 1 to the current page's
dwell. Line records are held in RUN and HOLD only, one for each line of the current page and of its kind; where they are not built, as
many may be kept of them for their marks. A page that has been rendered has its records, built or kept. -/
def LayoutOk (b : Board) : Prop :=
  b.width ≤ 512 ∧ b.height ≤ 128 ∧ b.panelCount ≤ 8 ∧ b.canvas.length = b.height ∧ (∀ row ∈ b.canvas, row.length = b.width)
    ∧ (∀ p g, b.places.get p = some g → p.num ≤ b.panelCount ∧ regionOk b.width b.height g = true)
    ∧ (∀ p q g o, p ≠ q → b.places.get p = some g → b.places.get q = some o → overlap g o = false)
    ∧ (∀ i p, pageAt b.pages i = some p → PageOk b.width b.height p)
    ∧ (b.current = none → b.dwell = 0 ∧ ∀ i, pageAt b.pages i = none)
    ∧ (∀ i, b.current = some i → ∃ p, pageAt b.pages i = some p ∧ 1 ≤ b.dwell ∧ b.dwell ≤ p.dwell)
    ∧ (∀ rs, b.lines = some rs → (b.mode = .run ∨ b.mode = .hold)
        ∧ ∃ p, currentPage b = some p ∧ List.Forall₂ (fun l r => contentFits l.kind r.content) p.lines rs)
    ∧ (b.kept ≠ [] → b.lines = none ∧ (b.mode = .run ∨ b.mode = .hold)
        ∧ ∃ p, currentPage b = some p ∧ List.Forall₂ (fun l r => contentFits l.kind r.content) p.lines b.kept)
    ∧ (b.rendered = true → heldLines b ≠ [])

/-! ### The countdown (Table 5-1, R50, R73 to R77) -/

/-- The settings that bound a record's derived fields lie in their ranges. -/
def CountdownOk (c : Countdown) : Prop :=
  c.due ≤ 120 ∧ c.bias ≤ 59 ∧ 1 ≤ c.maxMin ∧ c.maxMin ≤ 99 ∧ 1 ≤ c.rise ∧ c.rise ≤ 8

/-- A record's derived fields agree with one another: MINUTES form, and only it, has shown minutes, 1 to MAXMIN, and only while
predictions are allowed; the rise count stays below RISE_CONFIRM and is 0 in any other form. -/
def DisplayOk (b : Board) (r : Live) : Prop :=
  (r.form = .minutes ↔ r.shown.isSome = true) ∧ (r.form = .minutes → b.allowed = true)
    ∧ (∀ m, r.shown = some m → 1 ≤ m ∧ m ≤ b.countdown.maxMin) ∧ r.rise < b.countdown.rise ∧ (r.form ≠ .minutes → r.rise = 0)

/-- The permission the composer holds is the permission that stands, and every record displays by it. -/
def PermissionOk (s : State) : Prop :=
  s.board.allowed = permission s ∧ CountdownOk s.board.countdown ∧ ∀ r ∈ s.table.records, DisplayOk s.board r

/-! ### The Overlay Stack (R89, R95) -/

/-- At most four overlays, each of a different id 1 to 255 and a speed 8 to 64; the shown-since count is 0 while none is held. -/
def OverlaysOk (o : Overlays) : Prop :=
  o.records.length ≤ maxOverlays ∧ (o.records.map fun r => r.id).Nodup
    ∧ (∀ r ∈ o.records, 1 ≤ r.id ∧ r.id ≤ 255 ∧ 8 ≤ r.speed ∧ r.speed ≤ 64) ∧ o.shownSince < shownWrap
    ∧ (o.records = [] → o.shownSince = 0)

/-! ### The stores (R102, R107) -/

/-- A phrase with an id 1 to 1023, a variant present, and no variant longer than 64. -/
def PhraseOk (p : Phrase) : Prop :=
  1 ≤ p.id ∧ p.id ≤ 1023 ∧ p.v0.length ≤ maxVariant ∧ p.v1.length ≤ maxVariant ∧ p.v2.length ≤ maxVariant ∧ 0 < phraseCells p

/-- The phrases stand in ascending id, at most 256, within the pool of 12,288 cells. -/
def PhrasesOk (ps : List Phrase) : Prop :=
  ps.Pairwise (fun a b => a.id < b.id) ∧ (∀ p ∈ ps, PhraseOk p) ∧ ps.length ≤ maxPhrases ∧ cellsUsed ps ≤ maxCells

/-- An uploaded font that is not empty: its glyphs in ascending code, each 1 to 16 wide with the bytes its size takes. -/
def FontOk (f : Font) : Prop :=
  5 ≤ f.height ∧ f.height ≤ 24 ∧ f.spacing ≤ 3 ∧ f.glyphs ≠ [] ∧ f.glyphs.Pairwise (fun a b => a.code < b.code)
    ∧ ∀ g ∈ f.glyphs, g.code ≤ 255 ∧ 1 ≤ g.width ∧ g.width ≤ 16 ∧ g.bitmap.length = glyphBytes f.height g.width

/-- Every filled font is in order, and the bitmaps fit the pool of 24,576 bytes. -/
def FontsOk (fs : Fonts) : Prop :=
  (∀ f, fs.f1 = some f ∨ fs.f2 = some f ∨ fs.f3 = some f → FontOk f) ∧ bytesUsed fs ≤ maxBitmapBytes

/-! ### The Light Meter (R145) -/

/-- The applied brightness lies within the limits, the curve ascends strictly in C, and the other items lie in their ranges. -/
def LightOk (l : Light) : Prop :=
  l.bmin ≤ l.bmax ∧ l.bmax ≤ 255 ∧ l.bmin ≤ l.applied ∧ l.applied ≤ l.bmax ∧ l.gate ≤ maxCount ∧ l.last ≤ maxCount ∧ l.zeroRun ≤ silentRun
    ∧ l.target ≤ 255 ∧ l.goal ≤ 255 ∧ l.fixed ≤ 255 ∧ l.hyst ≤ 32 ∧ 1 ≤ l.slew ∧ l.slew ≤ 255
    ∧ l.curve.length = 6 ∧ l.curve.Pairwise (fun p q => p.c < q.c) ∧ ∀ p ∈ l.curve, p.c ≤ 65535 ∧ p.b ≤ 255

/-! ### The Notice Queue (R174, R176) -/

/-- At most eight notices, each with a serial of its own that has been issued. -/
def NoticesOk (q : Notices) : Prop :=
  q.queue.length ≤ maxNotices ∧ q.queue.Pairwise (fun a b => a.serial < b.serial) ∧ ∀ n ∈ q.queue, n.serial < q.serial ∧ n.stamp < 65536

/-! ### The signline (Table 11-2, R156, R159, R164) -/

/-- A frame being gathered has a length character of at most 240, if it has one, and is not complete. -/
def GatheringOk (got : List Byte) : Prop := ∀ n, got[3]? = some n → n.toNat ≤ maxPayload ∧ got.length < 6 + n.toNat

/-- At most seven replies wait, in the order of the frames they answer; the group addresses, the counts and the next stamp lie in
their ranges, and a frame in progress is not complete. -/
def LineOk (l : Line) : Prop :=
  l.waiting.length ≤ maxWaiting ∧ l.waiting.Pairwise (fun a b => a.seq ≤ b.seq) ∧ l.nextStamp < 65536
    ∧ (∀ g, l.groupA = some g ∨ l.groupB = some g → 64 ≤ g ∧ g ≤ 126) ∧ (∀ g, l.groupA = some g → l.groupB ≠ some g)
    ∧ l.trunc ≤ 255 ∧ l.crc ≤ 255 ∧ l.busy ≤ 255 ∧ ∀ got, l.rx = .inFrame got → GatheringOk got

/-! ### Frames and the chain (R53, R115 to R120, R130, R136) -/

/-- The position is sent frames: it is ACTIVE or FAILING. -/
def takesPackets (s : State) (p : Pos) : Prop := (s.chain.recs.get p).state = .active ∨ (s.chain.recs.get p).state = .failing

/-- What the frame state says of the frame record and the stripe store, and that an IDLE frame state leaves no eligible panel
marked. -/
def FrameOk (s : State) : Prop :=
  (s.coder.state = .idle → s.coder.record = none ∧ s.coder.stripes = [] ∧ Pos.all.any (frameTakes s) = false)
    ∧ (s.coder.state ≠ .idle → s.coder.record.isSome = true) ∧ s.coder.number ≤ 255 ∧ s.coder.palette.length = 16

/-- What holds the chain fits the board mode and the frame state, and no packet of a frame is outstanding or still to be sent to a
position that is ABSENT or FAULTED. -/
def ChainOk (s : State) : Prop :=
  match s.chain.work with
  | .idle => True
  | .enumerating => s.board.mode = .enumerating
  | .delivering out rest _ =>
    s.coder.state = .delivering ∧ (∀ o, out = some o → takesPackets s (itemPos o.item)) ∧ ∀ it ∈ rest, takesPackets s (itemPos it)
  | .probing _ _ _ => True

/-- A board without geometry has no placement and no frame; while a frame is coded or waits for the chain, its panels are sent
packets. -/
def BoardOk (s : State) : Prop :=
  (isConfigured s.board.mode = false → s.coder.state = .idle ∧ s.board.places = Per8.all none)
    ∧ ((∀ o rest g, s.chain.work ≠ .delivering o rest g) → ∀ r, s.coder.record = some r → ∀ e ∈ r.entries, takesPackets s e.pos)

/-- The frame coder, the chain controller and the board fit one another. -/
def DeliveryOk (s : State) : Prop := FrameOk s ∧ ChainOk s ∧ BoardOk s

/-- Everything above. -/
def Inv (s : State) : Prop :=
  TableOk s.table ∧ BatchOk s.batch ∧ SupervisorOk s.sup ∧ ClockOk s.clock ∧ PermissionOk s ∧ OverlaysOk s.overlays ∧ PhrasesOk s.phrases
    ∧ FontsOk s.fonts ∧ LightOk s.light ∧ NoticesOk s.notices ∧ DeliveryOk s ∧ LayoutOk s.board ∧ LineOk s.line

/-! ### Outcomes that statements compare with -/

/-- The outcome of a request that leaves the blocks as `s` and ends with an answer (R163, R170). -/
def answered (v : Via) (c : Instr) (a : Admitted) (ans : Answer) (s : State) : Result :=
  .next (finish v (requestKind c) a.seq a.lost ans s)

/-- Commands acting one after another. -/
def runCommands : List Instr → State → Result
  | [], s => .next s
  | c :: cs, s =>
    match exec c s with
    | .next t => runCommands cs t
    | .fault f => .fault f
    | .refused r => .refused r

/-- The characters of a frame arriving without an error (R155, R159). -/
def arrival (bs : List Byte) : List Instr := bs.map fun b => .receiveCharacter b (parityBit b) true

/-- The request kinds of one payload size: the kind's code (Table 13-3) and its size in bytes (Table 13-5). -/
def fixedSizes : List (Byte × Nat) :=
  [0x01#8, 0x02#8, 0x12#8, 0x42#8, 0x54#8, 0x62#8, 0x72#8].map (fun k => (k, 0))
    ++ [0x03#8, 0x06#8, 0x23#8, 0x27#8, 0x32#8, 0x34#8, 0x41#8, 0x53#8].map (fun k => (k, 1))
    ++ [0x04#8, 0x05#8, 0x20#8, 0x24#8, 0x22#8, 0x26#8, 0x28#8, 0x51#8].map (fun k => (k, 2))
    ++ [(0x61#8, 3), (0x30#8, 4), (0x25#8, 5), (0x10#8, 6), (0x11#8, 6), (0x70#8, 6), (0x40#8, 8), (0x31#8, 10), (0x21#8, 14),
        (0x35#8, 14), (0x71#8, 18)]

/-- The code is that of a request of Table 12-1: one of the kinds of one size, or SET_PAGE, SET_PHRASE, SET_GLYPHS or SET_PALETTE. -/
def KindNamed (kind : Byte) : Prop :=
  (∃ n, (kind, n) ∈ fixedSizes) ∨ kind = 0x33#8 ∨ kind = 0x50#8 ∨ kind = 0x52#8 ∨ kind = 0x60#8

/-- The payload has the size that Table 13-5 gives its kind, computed from the counts it carries where it carries any; for SET_GLYPHS
it holds the fixed fields and the widths list (R169). -/
def SizeFits (kind : Byte) (payload : List Byte) : Prop :=
  (kind, payload.length) ∈ fixedSizes
    ∨ (kind = 0x33#8 ∧ ∃ k, payload[4]? = some k ∧ payload.length = 5 + 26 * k.toNat)
    ∨ (kind = 0x50#8 ∧ ∃ l0 l1 l2, payload[2]? = some l0 ∧ payload[3]? = some l1 ∧ payload[4]? = some l2
        ∧ payload.length = 5 + l0.toNat + l1.toNat + l2.toNat)
    ∨ (kind = 0x52#8 ∧ ∃ c, payload[4]? = some c ∧ 5 + c.toNat ≤ payload.length)
    ∨ (kind = 0x60#8 ∧ ∃ c, payload[1]? = some c ∧ payload.length = 2 + 3 * c.toNat)

/-- The units of a row from left to right: an index and a length 1 to 16 each, and a piece is followed by another of its index only
where it is 16 pixels long (R124). -/
def UnitsOf (row : List Pixel) (units : List (Pixel × Nat)) : Prop :=
  row = units.flatMap (fun u => List.replicate u.2 u.1) ∧ (∀ u ∈ units, 1 ≤ u.2 ∧ u.2 ≤ 16)
    ∧ ∀ (i : Nat) (u w : Pixel × Nat), units[i]? = some u → units[i + 1]? = some w → u.1 = w.1 → u.2 = 16

/-- The frames that the three slots hold. -/
def heldFrames (sl : Slots) : List Slot := [sl.s1, sl.s2, sl.s3].filterMap id

/-- A departure record whose fields lie in the ranges of Table 1-1. -/
def DepartureOk (d : Departure) : Prop :=
  1 ≤ d.trip ∧ d.trip ≤ 65535 ∧ 1 ≤ d.platform ∧ d.platform ≤ 16 ∧ 1 ≤ d.linePh ∧ d.linePh ≤ 1023 ∧ 1 ≤ d.destPh ∧ d.destPh ≤ 1023
    ∧ d.scheduled ≤ 107999 ∧ ∀ p, d.predicted = some p → p ≤ 107999

/-- The fields with which PUT_DEPARTURE carries a record (Tables 13-4 and 13-6). -/
def rawDeparture (d : Departure) : RawDeparture :=
  { trip := BitVec.ofNat 16 d.trip, platform := BitVec.ofNat 8 d.platform, linePh := BitVec.ofNat 16 d.linePh,
    destPh := BitVec.ofNat 16 d.destPh, scheduled := BitVec.ofNat 24 d.scheduled,
    predicted := BitVec.ofNat 24 (d.predicted.getD 0xFFFFFF), status := statusByte d.status }

/-- A PUT_DEPARTURE that R21 refuses: some field lies outside its range in Table 1-1. -/
def BadDeparture (r : RawDeparture) : Prop :=
  r.trip = 0#16 ∨ r.platform = 0#8 ∨ 16 < r.platform.toNat ∨ r.linePh = 0#16 ∨ 1023 < r.linePh.toNat ∨ r.destPh = 0#16
    ∨ 1023 < r.destPh.toNat ∨ 107999 < r.scheduled.toNat ∨ (107999 < r.predicted.toNat ∧ r.predicted.toNat ≠ 0xFFFFFF)
    ∨ 3 < r.status.toNat

/-- The fields of SET_PANEL, with position `p`, pass every check of R55. -/
def PanelFits (s : State) (r : RawPanel) (p : Pos) : Prop :=
  r.position.toNat = p.val + 1 ∧ p.val + 1 ≤ s.board.panelCount ∧ r.x.toNat % 16 = 0 ∧ r.y.toNat % 16 = 0
    ∧ (r.width.toNat = 64 ∨ r.width.toNat = 128) ∧ (r.height.toNat = 16 ∨ r.height.toNat = 32)
    ∧ (r.scan.toNat = 4 ∨ r.scan.toNat = 8 ∨ r.scan.toNat = 16) ∧ r.scan.toNat ≤ r.height.toNat
    ∧ r.x.toNat + r.width.toNat ≤ s.board.width ∧ r.y.toNat + r.height.toNat ≤ s.board.height
    ∧ ∀ q o, q ≠ p → s.board.places.get q = some o →
        o.x + o.width ≤ r.x.toNat ∨ r.x.toNat + r.width.toNat ≤ o.x ∨ o.y + o.height ≤ r.y.toNat ∨ r.y.toNat + r.height.toNat ≤ o.y

/-- A present field lies within a line of this width (Table 4-3). -/
def FieldWithin (width : Nat) (f : RawField) : Prop := f.width ≠ 0#16 → f.x.toNat + f.width.toNat ≤ width

/-- Two fields, both present, share a column (Table 4-3). -/
def ShareColumn (f g : RawField) : Prop :=
  ∃ c, f.x.toNat ≤ c ∧ c < f.x.toNat + f.width.toNat ∧ g.x.toNat ≤ c ∧ c < g.x.toNat + g.width.toNat

/-- An alignment byte names this alignment (Table 13-3). -/
def AlignCode (b : Byte) (a : Align) : Prop := (b = 0#8 ∧ a = .left) ∨ (b = 1#8 ∧ a = .right) ∨ (b = 2#8 ∧ a = .centre)

/-- The fields of a line's kind pass the checks of Table 4-3 on a line of this width, and are those of `k`. -/
def KindReads (width : Nat) : RawBody → LineKind → Prop
  | .departure filter rank cancelled code dest time, k =>
    1 ≤ rank.toNat ∧ rank.toNat ≤ 8 ∧ cancelled.toNat ≤ 1 ∧ (∀ f ∈ [code, dest, time], FieldWithin width f)
      ∧ ¬ ShareColumn code dest ∧ ¬ ShareColumn code time ∧ ¬ ShareColumn dest time
      ∧ k = .departure filter rank.toNat (decide (cancelled = 1#8)) ⟨code.x.toNat, code.width.toNat⟩ ⟨dest.x.toNat, dest.width.toNat⟩
          ⟨time.x.toNat, time.width.toNat⟩
  | .clock format align, k =>
    format.toNat ≤ 1 ∧ ∃ a, AlignCode align a ∧ k = .clock (if format = 0#8 then .hhmm else .hhmmss) a
  | .phrase id align, k => 1 ≤ id.toNat ∧ id.toNat ≤ 1023 ∧ ∃ a, AlignCode align a ∧ k = .phrase id.toNat a
  | .band id, k => 1 ≤ id.toNat ∧ id.toNat ≤ 1023 ∧ k = .band id.toNat
  | .other _, _ => False

/-- A line definition passes the checks of R61 and R62 on a canvas of this size, and is `l`. -/
def LineReads (cw ch : Nat) (r : RawLine) (l : LineDef) : Prop :=
  r.height ≠ 0#8 ∧ r.width ≠ 0#16 ∧ r.x.toNat + r.width.toNat ≤ cw ∧ r.y.toNat + r.height.toNat ≤ ch ∧ r.font.toNat ≤ 3
    ∧ r.fg.toNat ≤ 15 ∧ r.bg.toNat ≤ 15 ∧ KindReads r.width.toNat r.body l.kind
    ∧ l = { y := r.y.toNat, height := r.height.toNat, x := r.x.toNat, width := r.width.toNat, font := r.font.toNat,
            fg := BitVec.ofNat 4 r.fg.toNat, bg := BitVec.ofNat 4 r.bg.toNat, kind := l.kind }

/-- The font, the foreground and background index and the language of a FULL overlay's middle band: those of line 0 of the current
page, and font 0, 15, 0 and 0 while there is none (R98). -/
def FullStyle (s : State) (f : Option Font) (fg bg : Pixel) (lang : Nat) : Prop :=
  ((∀ p, currentPage s.board = some p → p.lines = []) ∧ f = none ∧ fg = 15#4 ∧ bg = 0#4 ∧ lang = 0)
    ∨ ∃ p l ls, currentPage s.board = some p ∧ p.lines = l :: ls ∧ f = resolveFont s.fonts l.font ∧ fg = l.fg ∧ bg = l.bg
        ∧ lang = p.language

/-- The top is a SCROLL overlay whose text scrolls in an area where it is visible: the middle band, or a BAND line of a page that
has been rendered (R96 to R99, log 40). -/
def Scrolls (s : State) : Prop :=
  ∃ o rest, s.overlays.records = o :: rest ∧ o.present = .scroll
    ∧ ((o.scope = .full ∧ ∃ f fg bg lang, FullStyle s f fg bg lang ∧ s.board.width < textWidth f (phraseCodes s.phrases lang o.phrase))
      ∨ (o.scope = .band ∧ s.board.rendered = true ∧ ∃ p l i, currentPage s.board = some p ∧ l ∈ p.lines ∧ l.kind = .band i
          ∧ l.width < textWidth (resolveFont s.fonts l.font) (phraseCodes s.phrases p.language o.phrase)))

/-- A requested render performed at once: the canvas takes this image and the line records these marks, a pending render is met, each
placed panel one of whose pixels changed is added to the dirty set, and nothing else changes but that the current page may count as
rendered (R67, R68, log 40). -/
def RendersTo (s : State) (image : Canvas) (lines : Option (List LineRecord)) (rendered : Bool) : Prop :=
  ∃ dirty : PosSet,
    requestRender s = { s with board := { s.board with canvas := image, lines := lines, pending := false, rendered := rendered },
                               coder := { s.coder with dirty := dirty } }
    ∧ ∀ p, dirty.get p = true ↔ s.coder.dirty.get p = true ∨
        ∃ g, s.board.places.get p = some g ∧ ∃ r, r < g.height ∧ regionRow s.board.canvas g r ≠ regionRow image g r

/-- The pixel of an image at a column and a row. -/
def pixelAt (image : Canvas) (x y : Nat) : Option Pixel := image[y]?.bind fun row => row[x]?

/-- The code has no glyph in the font, so that it is drawn as a box (R111). -/
def MissingGlyph : Option Font → Nat → Prop
  | none, code => code < 32 ∨ 126 < code
  | some f, code => ∀ g ∈ f.glyphs, g.code ≠ code

/-- The marks that a render leaves in the record of a line of this kind under this top overlay (R100). -/
def Marked (top : Option Overlay) (k : LineKind) (r m : LineRecord) : Prop :=
  (∀ o, top = some o → (o.scope = .full ∨ ∃ i, k = .band i) → m = { r with covered := true, drawn := some o.phrase })
    ∧ ((∀ o, top = some o → o.scope = .band ∧ ∀ i, k ≠ .band i) → m = { r with covered := false, drawn := ownPhrase r.content })

/-- A field of SET_PAGE that R61 refuses whatever its lines' kinds are, or two lines that share a row. -/
def BadPage (b : Board) (index language skip : Byte) (lines : List RawLine) : Prop :=
  3 < index.toNat ∨ 2 < language.toNat ∨ 1 < skip.toNat ∨ 8 < lines.length
    ∨ (∃ l ∈ lines, l.height = 0#8 ∨ l.width = 0#16 ∨ b.width < l.x.toNat + l.width.toNat ∨ b.height < l.y.toNat + l.height.toNat
        ∨ 3 < l.font.toNat ∨ 15 < l.fg.toNat ∨ 15 < l.bg.toNat)
    ∨ ∃ i j : Nat, i < j ∧ ∃ l m : RawLine, lines[i]? = some l ∧ lines[j]? = some m
        ∧ l.y.toNat < m.y.toNat + m.height.toNat ∧ m.y.toNat < l.y.toNat + l.height.toNat

end Sys2Proof.Machine
end

