-- ==== Sys2Proof/Certificates/Slice0/Obligations.lean ====
section
/-! DEFINITION. The statements for the provers, in the order of OBLIGATIONS.json. A request's statement takes its admission as a premise (`RequestAdmission` says when it is admitted), and compares the outcome with `answered`, the end of a request (`RequestEnd` says what that does). -/

open Sys2Proof Sys2Proof.Machine

/-! ### The queue of commands and the Request Handler (spec/12 section 12.1, spec/95) -/

/-- One step takes the command at the front of the queue. That an empty queue idles is the model's choice (log 2). -/
def Obligations.StepRunsFrontCommand : Prop :=
  (∀ (c : Instr) (rest : List Instr) (s : State), s.pending = c :: rest → step s = exec c { s with pending := rest })
    ∧ ∀ s : State, s.pending = [] → step s = .next s

/-- Every command completes in every state, and none touches the queue of waiting commands. That a command whose condition does not hold
has no effect is the model's choice (logs 7 and 9). -/
def Obligations.EveryCommandCompletes : Prop :=
  ∀ (c : Instr) (s : State), ∃ t : State, exec c s = .next t ∧ t.pending = s.pending

/-- R156, R168, R170, R173, with the model's choices of logs 8 and 9: what a request's application starts from, that a request which
is not admitted has no effect, and that a reading request reaches nothing by group or broadcast. With no request held, a request
whose addressing no frame kept by the part can have is not admitted (log 8). -/
def Obligations.RequestAdmission : Prop :=
  (∀ (c : Instr) (s : State), s.handler.reset = .none → s.handler.current = none →
      ((∀ v, requestVia c = some v → (v.addressing = .unit → unitAddress s.line.straps ≠ none)
          ∧ (v.addressing = .group → s.line.groupA ≠ none ∨ s.line.groupB ≠ none)) →
        admission c s = some { seq := s.line.seq, lost := false, state := { s with line := { s.line with seq := s.line.seq + 1 } } })
      ∧ ∀ v, requestVia c = some v → (v.addressing = .unit ∧ unitAddress s.line.straps = none)
          ∨ (v.addressing = .group ∧ s.line.groupA = none ∧ s.line.groupB = none) → admission c s = none)
    ∧ (∀ (c : Instr) (s : State) (h : Held), s.handler.reset = .none → s.handler.current = some h →
        decodeRequest (slotVia h.slot) h.slot.kind h.slot.payload = .request c →
        admission c s = some { seq := h.slot.seq, lost := h.lost, state := { s with handler := { s.handler with current := none } } })
    ∧ (∀ (c : Instr) (s : State), s.handler.reset ≠ .none → admission c s = none)
    ∧ (∀ (c : Instr) (v : Via) (s : State), requestVia c = some v → admission c s = none → exec c s = .next s)
    ∧ ∀ (c : Instr) (v : Via) (s : State) (a : Admitted), requestVia c = some v → isReadingKind (requestKind c) = true →
        v.addressing ≠ .unit → admission c s = some a → exec c s = .next a.state

/-- R163 to R165, R160, R170 and R173: the end of a request. A unit-addressed one is answered by a reply that stands before the first
waiting reply to a later frame; in SUPPRESSED, or after a link reset, it is not. Where seven replies wait already, the first of all is
withheld (R164's bound; that its window closes then is the model's choice, log 11). A group or broadcast one is never answered, and a
refusal of it offers REFUSAL. A reply to RESET_UNIT ALL that will not be sent makes the reset due. That replies are ordered by the numbers
of their frames, and that the reset waits for UNIT_RESET once due, are the model's reading and the model's choice (logs 10 and 24). -/
def Obligations.RequestEnd : Prop :=
  ∀ (v : Via) (kind : Byte) (seq : Nat) (lost : Bool) (ans : Answer) (s : State),
    (v.addressing = .unit → lost = false → s.line.mode = .normal →
      ∃ (before after : List Reply) (r : Reply),
        s.line.waiting = before ++ after ∧ (∀ q ∈ before, q.seq ≤ seq) ∧ (∀ q, after.head? = some q → seq < q.seq)
        ∧ r = { seq := seq, dest := BitVec.ofNat 8 ((unitAddress s.line.straps).getD 0), kind := kind, tag := v.tag,
                payload := answerPayload ans, carried := answerCarried ans }
        ∧ (s.line.waiting.length < 7 →
          finish v kind seq lost ans s = { s with line := { s.line with waiting := before ++ r :: after } })
        ∧ ∀ first rest, 7 ≤ s.line.waiting.length → before ++ r :: after = first :: rest →
          finish v kind seq lost ans s = dropReply first.carried { s with line := { s.line with waiting := rest } })
    ∧ (v.addressing = .unit → lost = true ∨ s.line.mode = .suppressed →
      finish v kind seq lost ans s = dropReply (answerCarried ans) s)
    ∧ (v.addressing ≠ .unit → ∀ fields carried, ans = .done fields carried → finish v kind seq lost ans s = dropReply carried s)
    ∧ (v.addressing ≠ .unit → ∀ code, ans = .refused code →
      finish v kind seq lost ans s = { s with notices := offerTo s.notices (.refusal code) kind.toNat s.unit.uptime })
    ∧ ∀ carried : Carried,
      dropReply carried s = if carried = .reset then { s with handler := { s.handler with reset := .due } } else s

/-! ### Power, reset and the invariant -/

/-- The state that power-on leaves, item by item as the tables of each chapter give it, and the reset pin's, which differs in the reset
cause alone. The strap levels are the commands' operand (log 1), and `held`, `kept` and `rendered` are the model's own items (logs 16, 17
and 40). -/
def Obligations.PowerOnState : Prop :=
  ∀ (st : Straps) (s : State), ∃ t : State,
    exec (.powerOn st) s = .next t ∧ exec (.resetPin st) s = .next { t with unit := { cause := .resetPin, uptime := 0 } }
    ∧ t.unit = { cause := .powerOn, uptime := 0 } ∧ t.pending = s.pending
    ∧ t.table = { records := [], retireAfter := 120 }
    ∧ t.batch = { stage := none, g := 5, w := 30 }
    ∧ t.sup = { state := .disarmed, period := 60, action := .predictionsOff, hold := .run, remaining := 0 }
    ∧ t.clock = { state := .unset, day := 0, value := 0, slew := 0, agree := 0, age := 0, k := 2, tol := 2, coastAfter := 120,
                  lapseAfter := 1800, held := false }
    ∧ t.board.mode = .unconfigured ∧ t.board.width = 0 ∧ t.board.height = 0 ∧ t.board.panelCount = 0
    ∧ (∀ p, t.board.places.get p = none) ∧ (∀ i, pageAt t.board.pages i = none) ∧ t.board.current = none ∧ t.board.dwell = 0
    ∧ t.board.lines = none ∧ t.board.kept = [] ∧ t.board.rendered = false ∧ t.board.canvas = [] ∧ t.board.pending = false ∧ t.board.allowed = false
    ∧ t.board.countdown = { due := 30, bias := 30, maxMin := 30, rise := 2, suffix := 1001, duePh := 1002, cancelled := 1003,
                            delayed := 1004, held := 1005 }
    ∧ t.overlays = { records := [], shownSince := 0 } ∧ t.phrases = [] ∧ t.fonts = ⟨none, none, none⟩
    ∧ t.coder.state = .idle ∧ t.coder.number = 0 ∧ (∀ p, t.coder.dirty.get p = false ∧ t.coder.palDirty.get p = false)
    ∧ t.coder.palette = ⟨0#8, 0#8, 0#8⟩ :: List.replicate 15 ⟨255#8, 255#8, 255#8⟩ ∧ t.coder.record = none ∧ t.coder.stripes = []
    ∧ (∀ p, t.chain.recs.get p = { state := .absent, fails := 0, naks := 0, timeouts := 0 }) ∧ t.chain.count = 0 ∧ t.chain.found = 0
    ∧ t.chain.work = .idle ∧ t.chain.probeCount = 0 ∧ t.chain.retryLimit = 3 ∧ t.chain.faultAfter = 3 ∧ t.chain.probeEvery = 10
    ∧ t.light = { gate := 0, last := 0, sensor := .ok, zeroRun := 0, target := 128, goal := 128, applied := 128, mode := .auto,
                  fixed := 128, hyst := 4, slew := 8, bmin := 8, bmax := 255,
                  curve := [⟨0, 16⟩, ⟨200, 32⟩, ⟨1000, 80⟩, ⟨4000, 160⟩, ⟨12000, 230⟩, ⟨30000, 255⟩] }
    ∧ t.line.straps = st ∧ t.line.rx = .hunt ∧ t.line.slots = ⟨none, none, none⟩ ∧ t.line.nextStamp = 0 ∧ t.line.groupA = none
    ∧ t.line.groupB = none ∧ t.line.mode = .normal ∧ t.line.waiting = [] ∧ t.line.sending = none ∧ t.line.trunc = 0
    ∧ t.line.crc = 0 ∧ t.line.busy = 0
    ∧ t.handler = { current := none, reset := .none }
    ∧ t.notices.queue = [] ∧ t.notices.enables = ⟨true, true, true, true, true, true, true, true, true⟩ ∧ t.notices.overflow = false

/-- R173 and R141: RESET_UNIT. TABLES clears the table, an open batch and the overlay stack at once. ALL waits for its reply, or is due at
once when no reply is built. When due it sends one DARK and leaves the power-on state with the straps read anew and the cause UNIT_ALL.
R164: a reply being sent is sent whole; that its sending then acts on nothing is the model's reading (log 43). A UNIT_RESET that is not
due changes nothing (log 24). That the straps are its operand and that the DARK stands as the last packet sent are the model's choice
(logs 1 and 28). -/
def Obligations.UnitResets : Prop :=
  (∀ (v : Via) (s : State) (a : Admitted), admission (.resetUnitTables v) s = some a → ∃ u : State,
      u = { a.state with table := { s.table with records := [] }, batch := { s.batch with stage := none },
                         overlays := { records := [], shownSince := 0 }, unit := { s.unit with cause := .unitTables } }
      ∧ exec (.resetUnitTables v) s =
          answered v (.resetUnitTables v) a (done []) (if s.board.mode = .run then settle (requestRender u) else u))
    ∧ (∀ (v : Via) (s : State) (a : Admitted), admission (.resetUnitAll v) s = some a →
      (v.addressing = .unit → exec (.resetUnitAll v) s = answered v (.resetUnitAll v) a (.done [] .reset)
          { a.state with handler := { current := none, reset := .reply } })
      ∧ (v.addressing ≠ .unit ∨ a.lost = true ∨ s.line.mode = .suppressed →
          exec (.resetUnitAll v) s = .next { a.state with handler := { current := none, reset := .due } }))
    ∧ ∀ (st : Straps) (s : State),
      (s.handler.reset = .due → ∃ t u : State, exec (.unitReset st) s = .next t ∧ exec (.powerOn st) s = .next u
        ∧ t = { u with
                unit := { cause := .unitAll, uptime := 0 }, chain := { u.chain with out := some .dark },
                line := { u.line with sending := s.line.sending.map fun r => { r with carried := .nothing } } }
        ∧ t.line.straps = st ∧ t.line.waiting = [] ∧ (t.line.sending = none ↔ s.line.sending = none) ∧ t.handler.reset = .none)
      ∧ (s.handler.reset ≠ .due → exec (.unitReset st) s = .next s)

/-- The invariant that the later statements assume holds of the state after reset, and of every power-on and reset. -/
def Obligations.ResetMeetsInvariant : Prop :=
  Inv State.reset ∧ ∀ (st : Straps) (s t : State), exec (.powerOn st) s = .next t ∨ exec (.resetPin st) s = .next t → Inv t

/-! ### The internal tick (R52, spec/00 section 2.2) -/

/-- At one internal tick each block that has not taken it ahead (log 3) takes it exactly once, those the command names in the order
named (log 4), and the tick is then over: the model's choices. R171: the uptime's taking of a tick, which changes nothing else. The
other blocks' are stated one by one below. -/
def Obligations.InternalTickReachesEachBlockOnce : Prop :=
  (∀ s : State, blockTick .uptime s = { s with unit := { s.unit with uptime := min 4294967295 (s.unit.uptime + 1) } })
    ∧ ∀ (order : List TickBlock) (s : State), order.Nodup →
    ∃ blocks : List TickBlock,
      blocks.Nodup ∧ (∀ b, b ∈ blocks ↔ b ∉ s.tickTaken) ∧ (order.filter fun b => !s.tickTaken.contains b) <+: blocks
      ∧ exec (.internalTick order) s = .next { blocks.foldl (fun s b => blockTick b s) s with tickTaken := [] }

/-- R11: retirement at a tick. The records that leave stand at the front, the others keep their order, and nothing else changes. -/
def Obligations.RetirementAtTick : Prop :=
  (∀ s : State, s.clock.state = .unset → blockTick .table s = s)
    ∧ ∀ s : State, TableOk s.table → s.clock.state ≠ .unset →
      ∃ gone kept : List Live,
        s.table.records = gone ++ kept ∧ (∀ r ∈ gone, effective r.dep + s.table.retireAfter < s.clock.value / 16)
        ∧ (∀ r ∈ kept, s.clock.value / 16 ≤ effective r.dep + s.table.retireAfter)
        ∧ blockTick .table s = { s with table := { s.table with records := kept } }

/-- R33: the supervisor at a tick. `recompute` is the permission rule (`PermissionRecomputed`). SUPERVISOR_EXPIRED takes the coming
tick ahead of INTERNAL_TICK: the model's choice (log 3). -/
def Obligations.SupervisorAtTick : Prop :=
  (∀ s : State, s.sup.state ≠ .armed → blockTick .supervisor s = s)
    ∧ (∀ s : State, s.sup.state = .armed → s.board.mode = .hold → s.sup.hold = .pause → blockTick .supervisor s = s)
    ∧ (∀ s : State, s.sup.state = .armed → s.board.mode ≠ .hold ∨ s.sup.hold = .run → 2 ≤ s.sup.remaining →
        blockTick .supervisor s = { s with sup := { s.sup with remaining := s.sup.remaining - 1 } })
    ∧ ∀ s : State, s.sup.state = .armed → s.board.mode ≠ .hold ∨ s.sup.hold = .run → s.sup.remaining = 1 →
        blockTick .supervisor s =
            recompute { s with sup := { s.sup with state := .expired, remaining := 0 },
                               notices := offerTo s.notices .supExpired 0 s.unit.uptime }
        ∧ (TickBlock.supervisor ∉ s.tickTaken → exec .supervisorExpired s =
            .next { blockTick .supervisor s with tickTaken := .supervisor :: s.tickTaken })

/-- R24: the windows of an open batch at a tick. The notice names the gap window with high byte 0 and the total window with high byte
1. BATCH_WINDOW takes the coming tick ahead of INTERNAL_TICK: the model's choice (log 3). -/
def Obligations.BatchWindowsAtTick : Prop :=
  (∀ s : State, s.batch.stage = none → blockTick .batch s = s)
    ∧ (∀ (s : State) (b : Batch), s.batch.stage = some b → 2 ≤ b.gap → 2 ≤ b.total →
        blockTick .batch s = { s with batch := { s.batch with stage := some { b with gap := b.gap - 1, total := b.total - 1 } } })
    ∧ ∀ (s : State) (b : Batch), s.batch.stage = some b → 1 ≤ b.gap → 1 ≤ b.total → b.gap = 1 ∨ b.total = 1 →
        blockTick .batch s =
            { s with batch := { s.batch with stage := none },
                     notices := offerTo s.notices .batchWindow (b.tag + if b.gap = 1 then 0 else 256) s.unit.uptime }
        ∧ (TickBlock.batch ∉ s.tickTaken → exec .batchWindow s =
            .next { blockTick .batch s with tickTaken := .batch :: s.tickTaken })

/-- R41: the clock's age at a tick. CLOCK_COASTING and CLOCK_LAPSED take the coming tick ahead of INTERNAL_TICK: the model's choice
(log 3). -/
def Obligations.ClockAgesAtTick : Prop :=
  (∀ s : State, s.clock.state = .unset → blockTick .clock s = s)
    ∧ (∀ s : State, s.clock.state = .locked → s.clock.coastAfter ≤ min 65535 (s.clock.age + 1) →
        blockTick .clock s =
            { s with clock := { s.clock with age := min 65535 (s.clock.age + 1), state := .coasting },
                     notices := offerTo s.notices .clockCoasting (min 65535 (s.clock.age + 1)) s.unit.uptime }
        ∧ (TickBlock.clock ∉ s.tickTaken → exec .clockCoasting s =
            .next { blockTick .clock s with tickTaken := .clock :: s.tickTaken }))
    ∧ (∀ s : State, s.clock.state = .coasting → s.clock.coastAfter + s.clock.lapseAfter ≤ min 65535 (s.clock.age + 1) →
        blockTick .clock s =
            recompute { s with clock := { s.clock with age := min 65535 (s.clock.age + 1), state := .lapsed },
                               notices := offerTo s.notices .clockLapsed 0 s.unit.uptime }
        ∧ (TickBlock.clock ∉ s.tickTaken → exec .clockLapsed s =
            .next { blockTick .clock s with tickTaken := .clock :: s.tickTaken }))
    ∧ ∀ s : State, s.clock.state = .acquiring ∨ s.clock.state = .lapsed
        ∨ (s.clock.state = .locked ∧ min 65535 (s.clock.age + 1) < s.clock.coastAfter)
        ∨ (s.clock.state = .coasting ∧ min 65535 (s.clock.age + 1) < s.clock.coastAfter + s.clock.lapseAfter) →
        blockTick .clock s = { s with clock := { s.clock with age := min 65535 (s.clock.age + 1) } }

/-- R50, R73: the permission, and what a recomputation does: nothing while it stands as held, and otherwise it is held anew and
every record is evaluated without advancing a rise count. -/
def Obligations.PermissionRecomputed : Prop :=
  ∀ s : State,
    (permission s = true ↔ (s.clock.state = .locked ∨ s.clock.state = .coasting)
        ∧ ¬ (s.sup.state = .expired ∧ s.sup.action = .predictionsOff) ∧ s.board.mode ≠ .unconfigured)
    ∧ (permission s = s.board.allowed → recompute s = s)
    ∧ (permission s ≠ s.board.allowed → recompute s =
        { s with board := { s.board with allowed := permission s },
                 table := { s.table with records := s.table.records.map (evalRecord
                   { tick := false, n := s.clock.value / 16, allowed := permission s,
                     blank := decide (s.sup.state = .expired ∧ s.sup.action = .blankTimes), settings := s.board.countdown }) } })

/-- R39, R40, R95 and R96: a sub-tick. `step` is the clock's advance: at the slew point 2, 0 or 1 by the sign of the pending slew, and 1
elsewhere. `c` is the clock after it. An advance past the hold leaves no pending slew, and one onto the hold leaves what R39 leaves. A
held clock does not advance, and keeps a slew set there until the next slew point, which sets it to 0 (R45). That a clock is held from the
first advance past the hold, or from an agreeing mark at the hold, is the model's reading (log 16), as is when a BAND overlay counts as
visible (log 40), and that the slew point advances by the pending slew as it stands, also where a mark has just set one that stops the
value short of the hold (R47, log 52). `u` is the part once the clock has taken the sub-tick, and `w` once the overlay stack has counted
it. CLOCK_END_OF_DAY_HOLD is the clock's taking, ahead of SUB_TICK, of a sub-tick that brings it to the hold or finds it there LOCKED or
COASTING: the model's choice (log 3). Whether the sub-tick is the slew point is the command's operand: the model's choice (log 5). -/
def Obligations.SubTickAdvances : Prop :=
  ∀ (slewPoint : Bool) (s : State) (step : Nat) (c : Clock) (stays : Bool), s.clock.value ≤ 1727999 →
    stays = (s.clock.held && decide (s.clock.value = 1727999)) →
    step = (if slewPoint = true then (1 + s.clock.slew.sign).toNat else 1) →
    c = { s.clock with
          value := min 1727999 (s.clock.value + step),
          slew := if stays = true then (if slewPoint = true then 0 else s.clock.slew)
                  else if 1727999 < s.clock.value + step ∨ (slewPoint = true ∧ s.clock.value = 1727999) then 0
                  else if slewPoint = true then s.clock.slew - s.clock.slew.sign else s.clock.slew,
          held := stays || decide (1727999 < s.clock.value + step) } →
    ∃ u w : State,
      (s.subTaken = true ∨ s.clock.state = .unset → u = s)
      ∧ (s.subTaken = false → s.clock.state ≠ .unset → c.value < 1727999 ∨ s.clock.state = .acquiring ∨ s.clock.state = .lapsed →
          u = { s with clock := c })
      ∧ (s.subTaken = false → s.clock.state = .locked ∨ s.clock.state = .coasting → c.value = 1727999 →
          u = recompute { s with clock := { c with state := .lapsed },
                                 notices := offerTo s.notices .clockLapsed 1 s.unit.uptime })
      ∧ w = { u with overlays := { s.overlays with
          shownSince := if s.overlays.records = [] then s.overlays.shownSince else (s.overlays.shownSince + 1) % 4294967296 } }
      ∧ (s.board.mode = .run → Scrolls s →
          exec (.subTick slewPoint) s = .next { settle (requestRender w) with subTaken := false })
      ∧ (s.board.mode ≠ .run ∨ ¬ Scrolls s → exec (.subTick slewPoint) s = .next { w with subTaken := false })
      ∧ (s.subTaken = false → s.clock.state ≠ .unset → c.value = 1727999 →
          s.clock.value < 1727999 ∨ s.clock.state = .locked ∨ s.clock.state = .coasting →
          exec (.clockEndOfDayHold slewPoint) s = .next { u with subTaken := true })
      ∧ (s.subTaken = true ∨ s.clock.state = .unset ∨ c.value < 1727999
          ∨ (s.clock.value = 1727999 ∧ (s.clock.state = .acquiring ∨ s.clock.state = .lapsed)) →
          exec (.clockEndOfDayHold slewPoint) s = .next s)

/-- R94: overlay lifetimes at a tick. OVERLAY_EXPIRED takes the coming tick ahead of INTERNAL_TICK: the model's choice (log 3). That the
frame start is tested after the overlays' part of the tick, and not at the end of the tick, is the model's reading (log 19). -/
def Obligations.OverlayLifetimesAtTick : Prop :=
  ∀ s : State, ∃ u : State,
    u = { s with
          overlays := { records := (s.overlays.records.filter fun o => o.remaining ≠ 1).map fun o => { o with remaining := o.remaining - 1 },
                        shownSince := if (s.overlays.records.head?.map fun o => o.remaining) = some 1 then 0 else s.overlays.shownSince },
          notices := (s.overlays.records.filter fun o => o.remaining = 1).foldl
            (fun q o => offerTo q .overlayExpired o.id s.unit.uptime) s.notices }
    ∧ (s.board.mode = .run → (s.overlays.records.head?.map fun o => o.remaining) = some 1 →
        blockTick .overlays s = settle (requestRender u))
    ∧ (s.board.mode ≠ .run ∨ (s.overlays.records.head?.map fun o => o.remaining) ≠ some 1 → blockTick .overlays s = u)
    ∧ ((∃ o ∈ s.overlays.records, o.remaining = 1) → TickBlock.overlays ∉ s.tickTaken →
        exec .overlayExpired s = .next { blockTick .overlays s with tickTaken := .overlays :: s.tickTaken })

/-- R74 to R77: the countdown evaluation of one record, case by case, and the evaluation of the table. -/
def Obligations.CountdownEvaluation : Prop :=
  (∀ (c : EvalContext) (r : Live), ∃ f : TimeForm,
      (f = if r.dep.status = .cancelled ∨ r.dep.status = .held then .status
           else if c.blank = true then .empty
           else if c.allowed = false then (if r.dep.status = .delayed then .status else .clock)
           else if r.dep.status = .delayed ∧ r.dep.predicted = none then .status
           else if (effective r.dep : Int) - c.n ≤ c.settings.due then .due
           else if c.settings.maxMin < max 1 ((effective r.dep - c.n + c.settings.bias) / 60) then .clock
           else .minutes)
      ∧ (evalRecord c r).dep = r.dep ∧ (evalRecord c r).form = f
      ∧ (f ≠ .minutes → (evalRecord c r).shown = none ∧ (evalRecord c r).rise = 0)
      ∧ (f = .minutes → ∀ m, m = max 1 ((effective r.dep - c.n + c.settings.bias) / 60) →
          (r.shown = none → (evalRecord c r).shown = some m ∧ (evalRecord c r).rise = 0)
          ∧ (∀ old, r.shown = some old → m ≤ old → (evalRecord c r).shown = some m ∧ (evalRecord c r).rise = 0)
          ∧ (∀ old, r.shown = some old → old < m → c.tick = true → c.settings.rise ≤ r.rise + 1 →
              (evalRecord c r).shown = some m ∧ (evalRecord c r).rise = 0)
          ∧ (∀ old, r.shown = some old → old < m → c.tick = true → r.rise + 1 < c.settings.rise →
              (evalRecord c r).shown = some old ∧ (evalRecord c r).rise = r.rise + 1)
          ∧ ∀ old, r.shown = some old → old < m → c.tick = false →
              (evalRecord c r).shown = some old ∧ (evalRecord c r).rise = r.rise))
    ∧ ∀ (tick : Bool) (s : State), evaluate tick s =
        { s with table := { s.table with records := s.table.records.map (evalRecord
          { tick := tick, n := s.clock.value / 16, allowed := s.board.allowed,
            blank := decide (s.sup.state = .expired ∧ s.sup.action = .blankTimes), settings := s.board.countdown }) } }

/-- R52, R65, R66 and R100: the composer's work at a tick by mode, the page cycle, the building of line records, and DWELL_EXPIRY. `old`
is what is held of the page's line records before the tick, none where another page is chosen. The covered mark of the last render
stands until the next one (R100, log 17). The drawn phrase is the building's (Table 4-5, Table 5-3), but that of a covered BAND line
stands with its mark (R70). Whether the page has been rendered is the
model's item (log 40). DWELL_EXPIRY takes the tick ahead of INTERNAL_TICK: the model's choice (log 3). That the frame start is tested
after the composer's part of the tick, and not at the end of the tick, is the model's reading (log 19). -/
def Obligations.ComposerAtTick : Prop :=
  (∀ s : State, s.board.mode = .unconfigured → blockTick .composer s = s)
    ∧ (∀ s : State, s.board.mode ≠ .unconfigured → s.board.mode ≠ .run → blockTick .composer s = evaluate true s)
    ∧ (∀ s : State, s.board.mode = .run → s.board.current = none →
        blockTick .composer s = settle (requestRender (evaluate true s)))
    ∧ ∀ (s : State) (i : Fin 4) (p : Page), s.board.mode = .run → s.board.current = some i → pageAt s.board.pages i = some p →
        ∃ (j : Fin 4) (q : Page) (d : Nat) (rs old : List LineRecord),
          pageAt s.board.pages j = some q ∧ rs.map (fun r => r.content) = q.lines.map (fun l => buildContent (evaluate true s) l.kind)
          ∧ old = (if j = i then s.board.lines.getD s.board.kept else [])
          ∧ (∀ (k : Nat) (r : LineRecord), rs[k]? = some r →
              (∀ o, old[k]? = some o → o.covered = true → r.covered = true
                ∧ r.drawn = match r.content with | .band _ => o.drawn | c => ownPhrase c)
              ∧ ((∀ o, old[k]? = some o → o.covered = false) → r.covered = false ∧ r.drawn = ownPhrase r.content))
          ∧ (s.board.lines = none → j = i ∧ d = s.board.dwell)
          ∧ (s.board.lines ≠ none → 2 ≤ s.board.dwell → j = i ∧ d = s.board.dwell - 1)
          ∧ (s.board.lines ≠ none → s.board.dwell ≤ 1 → choice (evaluate true s) (i + 1) = some j ∧ d = q.dwell)
          ∧ blockTick .composer s = settle (requestRender { evaluate true s with
              board := { s.board with
                current := some j, dwell := d, lines := some rs, kept := [], rendered := s.board.rendered && decide (j = i) } })
          ∧ (s.board.lines ≠ none → s.board.dwell ≤ 1 → TickBlock.composer ∉ s.tickTaken →
              exec .dwellExpiry s = .next { blockTick .composer s with tickTaken := .composer :: s.tickTaken })

/-- R64: the choice of a page from a starting index. -/
def Obligations.PageChoice : Prop :=
  ∀ (s : State) (start : Fin 4),
    (choice s start = none ↔ ∀ i, pageAt s.board.pages i = none)
    ∧ (∀ (k : Fin 4) (p : Page), pageAt s.board.pages (start + k) = some p → passedOver s p = false →
        (∀ (j : Fin 4) (q : Page), j < k → pageAt s.board.pages (start + j) = some q → passedOver s q = true) →
        choice s start = some (start + k))
    ∧ ((∀ (i : Fin 4) (q : Page), pageAt s.board.pages i = some q → passedOver s q = true) →
        ∀ (i : Fin 4) (p : Page), pageAt s.board.pages i = some p → (∀ j, j < i → pageAt s.board.pages j = none) →
        choice s start = some i)
    ∧ ∀ p : Page, passedOver s p = true ↔
        p.skip = true ∧ (∃ l ∈ p.lines, ∃ f n c x y z, l.kind = .departure f n c x y z)
        ∧ ∀ l ∈ p.lines, ∀ f n c x y z, l.kind = .departure f n c x y z → selectRecord f n c s.table.records = none

/-- R80, R81 and R86: what a built line record holds. Platform p is bit p − 1 of the filter (R178). R82 to R85, R87, R97, R99, R106 and
R110 to R113: the text that is drawn for a line's content. A phrase gives its variant for the page's language; each present field, and
each line of another kind, is a text in its own area; a text that does not fit is truncated, and placed by its alignment; a scrolling
overlay's text is placed by its offset. The pixels of font 0 are free values (log 12). -/
def Obligations.LineContents : Prop :=
  (∀ (s : State) (f : BitVec 16) (rank : Nat) (showCancelled : Bool) (x y z : Field) (fmt : ClockFormat) (a : Align) (id : Nat),
    (∀ sel, sel = (s.table.records.filter fun r => 1 ≤ r.dep.platform && f.getLsbD (r.dep.platform - 1)
          && (decide (r.dep.status ≠ .cancelled) || showCancelled))[rank - 1]? →
      (sel = none → buildContent s (.departure f rank showCancelled x y z) = .departure none .empty .none)
      ∧ ∀ r, sel = some r → ∃ form value,
          buildContent s (.departure f rank showCancelled x y z) =
            .departure (some ⟨r.dep.trip, r.dep.platform, r.dep.linePh, r.dep.destPh⟩) form value
          ∧ form = (if s.sup.state = .expired ∧ s.sup.action = .blankTimes then .empty else r.form)
          ∧ (form = .minutes → ∀ m, r.shown = some m → value = .minutes m s.board.countdown.suffix)
          ∧ (form = .due → value = .phrase s.board.countdown.duePh)
          ∧ (form = .status → r.dep.status = .cancelled → value = .phrase s.board.countdown.cancelled)
          ∧ (form = .status → r.dep.status = .held → value = .phrase s.board.countdown.held)
          ∧ (form = .status → r.dep.status = .delayed → value = .phrase s.board.countdown.delayed)
          ∧ (form = .clock → value = .time (if s.board.allowed = true then r.dep.predicted.getD r.dep.scheduled else r.dep.scheduled))
          ∧ (form = .empty → value = .none))
    ∧ buildContent s (.clock fmt a) =
        .clock s.clock.state (if s.clock.state = .unset then none else some (s.clock.value / 16))
    ∧ buildContent s (.phrase id a) = .phrase id ∧ buildContent s (.band id) = .band id)
    ∧ (∀ (s : State) (lang : Nat) (l : LineDef) (r : LineRecord) (top : Option Overlay) (font : Option Font),
      font = resolveFont s.fonts l.font →
      (∀ flt n sc code dest time form value, l.kind = .departure flt n sc code dest time →
        (r.content = .departure none form value → contentLayers s lang l r top = [])
        ∧ ∀ sel, r.content = .departure (some sel) form value → ∃ text : List Nat,
          contentLayers s lang l r top =
            ([(code, Align.left, phraseCodes s.phrases lang sel.linePh), (dest, .left, phraseCodes s.phrases lang sel.destPh),
                (time, .right, text)].filter fun f => f.1.width ≠ 0).map
              (fun f => placedText (l.x + f.1.x) l.y f.1.width l.height l.fg font f.2.1 f.2.2)
          ∧ (∀ m i, form = .minutes → value = .minutes m i → m ≤ 99 →
              text = (if m < 10 then [48 + m] else [48 + m / 10, 48 + m % 10])
                ++ if (s.phrases.any fun q => q.id == i) = true then 32 :: phraseCodes s.phrases lang i else [])
          ∧ (∀ i, form = .due ∨ form = .status → value = .phrase i → text = phraseCodes s.phrases lang i)
          ∧ (∀ t, form = .clock → value = .time t → text = clockCodes .hhmm (some t)) ∧ (form = .empty → text = []))
      ∧ (∀ fmt a st t, l.kind = .clock fmt a → r.content = .clock st t →
          contentLayers s lang l r top = [placedText l.x l.y l.width l.height l.fg font a (clockCodes fmt t)])
      ∧ (∀ i j a, l.kind = .phrase i a → r.content = .phrase j →
          contentLayers s lang l r top = [placedText l.x l.y l.width l.height l.fg font a (phraseCodes s.phrases lang j)])
      ∧ ∀ i j, l.kind = .band i → r.content = .band j →
          (top = none → contentLayers s lang l r top =
            [placedText l.x l.y l.width l.height l.fg font .left (phraseCodes s.phrases lang j)])
          ∧ ∀ o, top = some o → contentLayers s lang l r top =
            [overlayText o s.overlays.shownSince l.x l.y l.width l.height l.fg font (glyphTop l.y l.height (fontHeight font))
              (phraseCodes s.phrases lang o.phrase)])
    ∧ (∀ (fmt : ClockFormat) (t h m : Nat), h = t / 3600 % 24 → m = t / 60 % 60 →
      clockCodes fmt (some t) = [48 + h / 10, 48 + h % 10, 58, 48 + m / 10, 48 + m % 10]
          ++ (if fmt = .hhmmss then [58, 48 + t % 60 / 10, 48 + t % 60 % 10] else [])
      ∧ clockCodes fmt none = [45, 45, 58, 45, 45] ++ if fmt = .hhmmss then [58, 45, 45] else [])
    ∧ (∀ (ps : List Phrase) (lang id : Nat), ((∀ p ∈ ps, p.id ≠ id) → phraseCodes ps lang id = [])
      ∧ ∀ (p : Phrase) (own : List Byte), ps.find? (fun q => q.id == id) = some p →
        (lang = 0 ∧ own = p.v0) ∨ (lang = 1 ∧ own = p.v1) ∨ (lang = 2 ∧ own = p.v2) →
        phraseCodes ps lang id =
          (if own ≠ [] then own else if p.v0 ≠ [] then p.v0 else if p.v1 ≠ [] then p.v1 else p.v2).map fun b => b.toNat)
    ∧ (∀ (fs : Fonts) (id : Nat) (f : Font), resolveFont fs id = some f ↔
      ((id = 1 ∧ fs.f1 = some f) ∨ (id = 2 ∧ fs.f2 = some f) ∨ (id = 3 ∧ fs.f3 = some f)) ∧ f.glyphs ≠ [])
    ∧ (∀ (f : Option Font) (code row col : Nat),
      (MissingGlyph f code → glyphWidth f code = 4
        ∧ (glyphPixel f code row col = true ↔ row = 0 ∨ row + 1 = fontHeight f ∨ col = 0 ∨ col = 3))
      ∧ (f = none → 32 ≤ code → code ≤ 126 → glyphWidth f code = 5 ∧ (code = 32 → glyphPixel f code row col = false)
        ∧ (code ≠ 32 → glyphPixel f code row col = Config.font0Pixel code row col))
      ∧ ∀ x g, f = some x → x.glyphs.find? (fun g => g.code == code) = some g → glyphWidth f code = g.width
        ∧ glyphPixel f code row col = (g.bitmap.getD (row * ((g.width + 7) / 8) + col / 8) 0#8).getMsbD (col % 8))
    ∧ (∀ (f : Option Font) (codes : List Nat) (top x y : Nat) (left : Int),
      textWidth f [] = 0
      ∧ (codes ≠ [] → textWidth f codes = (codes.map (glyphWidth f)).sum + fontSpacing f * (codes.length - 1))
      ∧ (textPixel f top x y left codes = true ↔ ∃ (i c : Nat) (edge : Int), codes[i]? = some c
          ∧ edge = left + ((codes.take i).map fun c => glyphWidth f c + fontSpacing f).sum ∧ edge ≤ x ∧ (x : Int) < edge + glyphWidth f c
          ∧ top ≤ y ∧ y < top + fontHeight f ∧ glyphPixel f c (y - top) ((x : Int) - edge).toNat = true))
    ∧ (∀ (x y w h : Nat) (ink : Pixel) (f : Option Font) (a : Align) (codes : List Nat), ∃ k left : Nat,
      k ≤ codes.length ∧ textWidth f (codes.take k) ≤ w ∧ (∀ j, k < j → j ≤ codes.length → w < textWidth f (codes.take j))
      ∧ (a = .left → left = x) ∧ (a = .right → left + textWidth f (codes.take k) = x + w)
      ∧ (a = .centre → left = x + (w - textWidth f (codes.take k)) / 2)
      ∧ placedText x y w h ink f a codes =
          { x := x, y := y, width := w, height := h, fill := none, ink := ink, font := f, codes := codes.take k, left := (left : Int),
            top := if fontHeight f ≤ h then y + (h - fontHeight f) / 2 else y })
    ∧ ∀ (o : Overlay) (since x y w h : Nat) (ink : Pixel) (f : Option Font) (top : Nat) (codes : List Nat),
      (o.present = .still ∨ textWidth f codes ≤ w →
        overlayText o since x y w h ink f top codes = { placedText x y w h ink f .left codes with top := top })
      ∧ (o.present = .scroll → w < textWidth f codes → overlayText o since x y w h ink f top codes =
        { x := x, y := y, width := w, height := h, fill := none, ink := ink, font := f, codes := codes,
          left := (x : Int) + w - ((since * o.speed / 16 % (textWidth f codes + w) : Nat) : Int), top := top })

/-- R67, R68, R58, R59, R97, R98 and R100: a render requested. A render of a page in RUN or HOLD makes it count as rendered (log 40). In
CODING it is deferred. Otherwise the canvas takes the image that the mode calls for, the line records keep what their building gave and
take the marks of the render, and each placed panel one of whose pixels changed is marked. In BLANK the image is index 0 throughout; in
TEST it is the test pattern; in RUN and HOLD it is the page, or a FULL overlay's middle band alone. With a page current and its records
not built, no render is performed. That a pending render then stays pending is the model's reading (log 18). The pixels of font 0 are free
values (log 12). -/
def Obligations.RenderRequested : Prop :=
  (∀ s : State,
    (s.coder.state = .coding → requestRender s = { s with board := { s.board with pending := true } })
    ∧ (s.coder.state ≠ .coding →
      (s.board.mode = .unconfigured ∨ s.board.mode = .enumerating
          ∨ (s.board.mode = .run ∨ s.board.mode = .hold) ∧ s.board.current ≠ none ∧ s.board.lines = none → requestRender s = s)
      ∧ (s.board.mode = .blank →
          RendersTo s (List.replicate s.board.height (List.replicate s.board.width 0#4)) s.board.lines s.board.rendered)
      ∧ (s.board.mode = .test →
          RendersTo s (drawCanvas s.board.width s.board.height (testLayers s.board)) s.board.lines s.board.rendered)
      ∧ (s.board.mode = .run ∨ s.board.mode = .hold → s.board.current = none →
          (∀ o, s.overlays.records.head? = some o → o.scope = .full →
            RendersTo s (drawCanvas s.board.width s.board.height (fullLayers s o)) s.board.lines s.board.rendered)
          ∧ ((∀ o, s.overlays.records.head? = some o → o.scope = .band) →
            RendersTo s (List.replicate s.board.height (List.replicate s.board.width 0#4)) s.board.lines s.board.rendered))
      ∧ (s.board.mode = .run ∨ s.board.mode = .hold → ∀ i p rs, s.board.current = some i → pageAt s.board.pages i = some p →
          s.board.lines = some rs → rs.length = p.lines.length → ∃ ms : List LineRecord,
            ms.length = rs.length
            ∧ (∀ (j : Nat) (l : LineDef) (r m : LineRecord), p.lines[j]? = some l → rs[j]? = some r → ms[j]? = some m →
                Marked s.overlays.records.head? l.kind r m)
            ∧ (∀ o, s.overlays.records.head? = some o → o.scope = .full →
              RendersTo s (drawCanvas s.board.width s.board.height (fullLayers s o)) (some ms) true)
            ∧ ((∀ o, s.overlays.records.head? = some o → o.scope = .band) →
              RendersTo s (drawCanvas s.board.width s.board.height (List.zipWith (fun l r =>
                filled l.x l.y l.width l.height l.bg :: contentLayers s p.language l r s.overlays.records.head?) p.lines rs).flatten)
                (some ms) true))))
    ∧ (∀ (s : State) (o : Overlay) (f : Option Font) (fg bg : Pixel) (lang top : Nat), FullStyle s f fg bg lang →
      top = (s.board.height - fontHeight f) / 2 → fullLayers s o =
        [filled 0 top s.board.width (fontHeight f) bg,
          overlayText o s.overlays.shownSince 0 top s.board.width (fontHeight f) fg f top (phraseCodes s.phrases lang o.phrase)])
    ∧ (∀ c : LineContent, (∀ sel form value, c = .departure sel form value → ownPhrase c = sel.map fun r => r.destPh)
      ∧ (∀ st t, c = .clock st t → ownPhrase c = none) ∧ ∀ i, c = .phrase i ∨ c = .band i → ownPhrase c = some i)
    ∧ (∀ (w h x y : Nat) (ls : List Layer), x < w → y < h →
      pixelAt (drawCanvas w h ls) x y = some (ls.foldl (fun under l =>
        if l.x ≤ x ∧ x < l.x + l.width ∧ l.y ≤ y ∧ y < l.y + l.height then
          if textPixel l.font l.top x y l.left l.codes = true then l.ink else l.fill.getD under
        else under) 0#4))
    ∧ ∀ (b : Board) (x y : Nat), LayoutOk b → x < b.width → y < b.height →
      ((∀ p g, b.places.get p = some g → x < g.x ∨ g.x + g.width ≤ x ∨ y < g.y ∨ g.y + g.height ≤ y) →
        pixelAt (drawCanvas b.width b.height (testLayers b)) x y = some 0#4)
      ∧ ∀ (p : Pos) (g : Placement) (col row : Nat), b.places.get p = some g → x = g.x + col → y = g.y + row → col < g.width →
        row < g.height → pixelAt (drawCanvas b.width b.height (testLayers b)) x y = some (
          if g.height ≤ row + 8 then (if col < 60 then BitVec.ofNat 4 (col / 4 + 1) else 0#4)
          else if col < 5 ∧ row < 7 ∧ Config.font0Pixel (48 + (p.val + 1)) row col = true then 15#4 else 0#4)

/-- R139 and R140: the probe count at a tick, PROBE_ROUND_DUE and PROBE_ROUND_START. `faulted` lists the FAULTED positions in
ascending order. The model's choices: while a round is due and PROBE_EVERY has been raised above the count, the count rises and the
round stays due (log 41); PROBE_ROUND_DUE takes the tick ahead of INTERNAL_TICK (log 3), with no position FAULTED as well (log 49);
a round that had to wait starts in its own row (log 20). -/
def Obligations.ProbeRounds : Prop :=
  ∀ (s : State) (n : Nat) (faulted : List Pos),
    n = (if s.chain.probeEvery ≤ s.chain.probeCount then s.chain.probeCount else s.chain.probeCount + 1) →
    faulted = Pos.all.filter (fun p => decide ((s.chain.recs.get p).state = .faulted)) →
    (n < s.chain.probeEvery → blockTick .chain s = { s with chain := { s.chain with probeCount := n } })
    ∧ (s.chain.probeEvery ≤ n → faulted = [] → blockTick .chain s = { s with chain := { s.chain with probeCount := 0 } })
    ∧ (s.chain.probeEvery ≤ n → faulted ≠ [] → s.chain.work ≠ .idle → blockTick .chain s =
        { s with chain := { s.chain with probeCount := n, roundDue := true } })
    ∧ (∀ p rest, s.chain.probeEvery ≤ n → faulted = p :: rest → s.chain.work = .idle → s.board.mode ≠ .enumerating →
        blockTick .chain s =
          { s with chain := { s.chain with probeCount := 0, roundDue := false, work := .probing p rest false, out := some (.probe p) } })
    ∧ (s.chain.probeEvery ≤ n → TickBlock.chain ∉ s.tickTaken →
        exec .probeRoundDue s = .next { blockTick .chain s with tickTaken := .chain :: s.tickTaken })
    ∧ (∀ p rest, s.chain.roundDue = true → s.chain.work = .idle → s.board.mode ≠ .enumerating → faulted = p :: rest →
        exec .probeRoundStart s = .next { s with chain := { s.chain with
          probeCount := 0, roundDue := false, work := .probing p rest false, out := some (.probe p) } })
    ∧ (s.chain.roundDue = true → s.chain.work = .idle → s.board.mode ≠ .enumerating → faulted = [] →
        exec .probeRoundStart s = .next { s with chain := { s.chain with probeCount := 0, roundDue := false } })

/-! ### The Light Meter (spec/10) -/

/-- R146, R147, R149 and R152: a pulse, and the end of a gate window. -/
def Obligations.LightWindow : Prop :=
  ∀ s : State,
    exec .luxInPulse s = .next { s with light := { s.light with gate := min 65535 (s.light.gate + 1) } }
    ∧ ∃ (l : Light) (q : Notices) (u : State),
      u = { s with light := l, notices := q }
      ∧ exec .lightWindowEnd s = .next (if l.applied = s.light.applied then u else settle (markPalettes u))
      ∧ l.gate = 0 ∧ l.last = s.light.gate ∧ l.zeroRun = (if s.light.gate = 0 then min 40 (s.light.zeroRun + 1) else 0)
      ∧ l.sensor = (if s.light.gate = 65535 then .saturated
          else if s.light.gate = 0 then (if l.zeroRun = 40 then .silent else s.light.sensor) else .ok)
      ∧ (l.sensor = s.light.sensor → q = s.notices)
      ∧ (l.sensor ≠ s.light.sensor → l.sensor = .saturated → q = offerTo s.notices .lightSaturated s.light.applied s.unit.uptime)
      ∧ (l.sensor ≠ s.light.sensor → l.sensor = .silent → q = offerTo s.notices .lightSilent s.light.applied s.unit.uptime)
      ∧ (l.sensor ≠ s.light.sensor → l.sensor = .ok → q = offerTo s.notices .lightOk s.light.gate s.unit.uptime)
      ∧ l.target = (if l.sensor = .ok then target s.light.gate s.light.curve else s.light.target)
      ∧ (l.sensor ≠ .ok ∨ s.light.mode = .fixed → l.goal = s.light.goal ∧ l.applied = s.light.applied)
      ∧ (l.sensor = .ok → s.light.mode = .auto →
          l.goal = (if s.light.hyst ≤ ((l.target : Int) - s.light.goal).natAbs then l.target else s.light.goal)
          ∧ l.applied = max s.light.bmin (min s.light.bmax
              (if s.light.applied < l.goal then min l.goal (s.light.applied + s.light.slew)
               else max l.goal (s.light.applied - s.light.slew))))
      ∧ l.mode = s.light.mode ∧ l.fixed = s.light.fixed ∧ l.hyst = s.light.hyst ∧ l.slew = s.light.slew ∧ l.bmin = s.light.bmin
      ∧ l.bmax = s.light.bmax ∧ l.curve = s.light.curve

/-- R148: the target for a count on a curve of six breakpoints in ascending C. -/
def Obligations.CurveTarget : Prop :=
  ∀ (count : Nat) (curve : List Point), curve.length = 6 → curve.Pairwise (fun p q => p.c < q.c) →
    (∀ p, curve.head? = some p → count ≤ p.c → target count curve = p.b)
    ∧ (∀ p, curve.getLast? = some p → p.c ≤ count → target count curve = p.b)
    ∧ ∀ before p q after, curve = before ++ p :: q :: after → p.c ≤ count → count < q.c →
        (target count curve : Int) = p.b + (((q.b : Int) - p.b) * ((count : Int) - p.c)).tdiv ((q.c : Int) - p.c)
        ∧ min p.b q.b ≤ target count curve ∧ target count curve ≤ max p.b q.b

/-! ### The signline (spec/11) -/

/-- R158, R159 and R164: a character in each receiver state, 4 character times of idle line, and a gap within a frame, while the receiver
is on; and that nothing is received while a reply is sent. The model's choices: a character ends a break (log 22); a character of low bits
is a character error and begins no break (log 38); LINE_IDLE_SEEN in a frame, FRAME_GAP outside one, and an event of the line while the
receiver is off change nothing (log 7). The parity bit is looked at only where the straps call for parity: the model's reading (log 33).
The gap and the idle stretch come as commands, when the sender gives them: the model's choice (log 11). -/
def Obligations.ReceiverMoves : Prop :=
  ∀ (s quiet : State) (b : Byte) (parity stop : Bool) (bad : Prop),
    quiet = { s with line := { s.line with breakOn := false, resetRaised := false } } →
    (bad ↔ (s.line.straps.parity = true ∧ parity ≠ parityBit b) ∨ stop = false) →
    (∀ c ∈ [Instr.receiveCharacter b parity stop, .frameComplete b, .lineIdleSeen, .frameGap, .lineBreak, .linkReset],
      s.line.sending ≠ none → exec c s = .next s)
    ∧ (s.line.sending = none →
      (s.line.rx = .hunt ∨ s.line.rx = .discard → exec (.receiveCharacter b parity stop) s = .next quiet
          ∧ exec .lineIdleSeen s = .next { quiet with line := { quiet.line with rx := .idleSeen } } ∧ exec .frameGap s = .next s)
      ∧ (s.line.rx = .idleSeen → bad →
          exec (.receiveCharacter b parity stop) s = .next { quiet with line := { quiet.line with rx := .discard } })
      ∧ (s.line.rx = .idleSeen → ¬ bad → b = 0xC3#8 →
          exec (.receiveCharacter b parity stop) s = .next { quiet with line := { quiet.line with rx := .inFrame [] } })
      ∧ (s.line.rx = .idleSeen → ¬ bad → b ≠ 0xC3#8 →
          exec (.receiveCharacter b parity stop) s = .next { quiet with line := { quiet.line with rx := .hunt } })
      ∧ ∀ got : List Byte, s.line.rx = .inFrame got →
          (bad ∨ (got.length = 3 ∧ 240 < b.toNat) → exec (.receiveCharacter b parity stop) s =
            .next { quiet with line := { quiet.line with rx := .discard, trunc := min 255 (s.line.trunc + 1) } })
          ∧ (¬ bad → got.length < 3 ∨ (got.length = 3 ∧ b.toNat ≤ 240) ∨ (∃ n, got[3]? = some n ∧ got.length + 1 < 6 + n.toNat) →
            exec (.receiveCharacter b parity stop) s = .next { quiet with line := { quiet.line with rx := .inFrame (got ++ [b]) } })
          ∧ exec .frameGap s = .next { s with line := { s.line with rx := .hunt, trunc := min 255 (s.line.trunc + 1) } }
          ∧ exec .lineIdleSeen s = .next s)

/-- R161 and R162: the judgement of a complete frame, reached by FRAME_COMPLETE with its last CRC character (log 34), and the addressing
of a destination (R156). That a character ends a break, and that a completed frame takes the next number of the model's own, are the
model's reading (logs 22 and 10). -/
def Obligations.FrameJudged : Prop :=
  (∀ (s u : State) (dest kind tag len last : Byte) (rest payload crc : List Byte) (good : Prop),
    s.line.sending = none → s.line.rx = .inFrame (dest :: kind :: tag :: len :: rest) → rest.length = len.toNat + 1 →
    len.toNat ≤ 240 → payload = rest.take len.toNat → crc = rest.drop len.toNat ++ [last] →
    (good ↔ crc = bytes16 (crc16 ([dest, kind, tag, len] ++ payload))) →
    u = { s with line := { s.line with rx := .hunt, breakOn := false, resetRaised := false } } →
    (¬ good → exec (.frameComplete last) s = .next { u with line := { u.line with crc := min 255 (s.line.crc + 1) } })
    ∧ (good → kind.msb = true ∨ addressingOf s.line dest = none → exec (.frameComplete last) s = .next u)
    ∧ ∀ (a : Addressing) (f : Slot), good → kind.msb = false → addressingOf s.line dest = some a →
        f = { dest := dest, kind := kind, tag := tag, payload := payload, addressing := a, stamp := s.line.nextStamp,
              seq := s.line.seq } →
        (s.line.slots.s1 = none ∨ s.line.slots.s2 = none ∨ s.line.slots.s3 = none → ∃ sl : Slots,
          (heldFrames sl).Perm (f :: heldFrames s.line.slots)
          ∧ exec (.frameComplete last) s = .next { u with line := { u.line with
              slots := sl, nextStamp := (s.line.nextStamp + 1) % 65536, seq := s.line.seq + 1 } })
        ∧ (s.line.slots.s1 ≠ none → s.line.slots.s2 ≠ none → s.line.slots.s3 ≠ none → ∀ w : State,
          w = { u with line := { u.line with busy := min 255 (s.line.busy + 1), seq := s.line.seq + 1 },
                       notices := offerTo s.notices .lineSlotOverrun kind.toNat s.unit.uptime } →
          exec (.frameComplete last) s = .next (if a = .unit then
            finish { addressing := .unit, tag := tag } kind s.line.seq false (.refused .busy) w else w)))
    ∧ ∀ (l : Line) (d : Byte),
      (addressingOf l d = some .unit ↔ unitAddress l.straps = some d.toNat)
      ∧ (addressingOf l d = some .group ↔ unitAddress l.straps ≠ some d.toNat ∧ (l.groupA = some d.toNat ∨ l.groupB = some d.toNat))
      ∧ (addressingOf l d = some .broadcast ↔ unitAddress l.straps ≠ some d.toNat ∧ l.groupA ≠ some d.toNat
          ∧ l.groupB ≠ some d.toNat ∧ d = 127#8)
      ∧ (unitAddress l.straps = if l.straps.addr = 0#6 ∨ l.straps.addr = 63#6 then none else some l.straps.addr.toNat)

/-- R155, R158, R159, R161 and R162: any frame of at most 240 payload characters that is not a reply, sent to a destination the part holds
and arriving character by character after an idle stretch with a slot free, is kept, with every field as sent. That the last character
completes the frame is the model's choice (log 34); that a character ends a break, and that the frame takes the next number of the model's
own, are the model's reading (logs 22 and 10). -/
def Obligations.FrameReceived : Prop :=
  ∀ (dest kind tag : Byte) (payload : List Byte) (a : Addressing) (s : State),
    payload.length ≤ 240 → kind.msb = false → s.line.sending = none → s.line.rx = .idleSeen → addressingOf s.line dest = some a →
    s.line.slots.s1 = none ∨ s.line.slots.s2 = none ∨ s.line.slots.s3 = none →
    ∃ sl : Slots,
      (heldFrames sl).Perm ({ dest := dest, kind := kind, tag := tag, payload := payload, addressing := a,
                              stamp := s.line.nextStamp, seq := s.line.seq } :: heldFrames s.line.slots)
      ∧ runCommands (arrival (frameBytes dest kind tag payload)) s = .next { s with line := { s.line with
          rx := .hunt, slots := sl, nextStamp := (s.line.nextStamp + 1) % 65536, seq := s.line.seq + 1, breakOn := false,
          resetRaised := false } }

/-- R160, R30 and R29: a break begins, and a link reset is raised by a break that goes on, once. The open batch is discarded, except where
the handler has taken a BATCH_CLOSE, which is applied whole; that LINE/LINK_RESET then comes before the notices of the close is the
model's choice (log 51). The 200 ms end with the command LINK_RESET (log 11), and the reset, once due, waits for UNIT_RESET (log 24): the
model's choice. How long a break goes on, in the two flags, is the model's reading (log 22). -/
def Obligations.BreakAndLinkReset : Prop :=
  ∀ s : State, s.line.sending = none →
    exec .lineBreak s = .next { s with line := { s.line with
        rx := .hunt, breakOn := true, resetRaised := false,
        trunc := match s.line.rx with | .inFrame _ => min 255 (s.line.trunc + 1) | _ => s.line.trunc } }
    ∧ (s.line.breakOn = true → s.line.resetRaised = true → exec .linkReset s = .next s)
    ∧ (s.line.breakOn = true → s.line.resetRaised = false → exec .linkReset s = .next { s with
        line := { s.line with rx := .hunt, slots := ⟨none, none, none⟩, waiting := [], mode := .normal, resetRaised := true },
        handler := { current := s.handler.current.map fun h => { h with lost := true },
                     reset := if ∃ r ∈ s.line.waiting, r.carried = .reset then .due else s.handler.reset },
        batch := if (s.handler.current.map fun h => h.slot.kind) = some 0x23#8 then s.batch else { s.batch with stage := none },
        notices := offerTo
          (match s.batch.stage with
            | none => s.notices
            | some b => if (s.handler.current.map fun h => h.slot.kind) = some 0x23#8 then s.notices
                else offerTo s.notices .batchLinkReset b.tag s.unit.uptime)
          .lineLinkReset (heldFrames s.line.slots).length s.unit.uptime })

/-- R162, R168, R169 and R173: REQUEST_TAKE. A free handler takes the frame whose arrival stamp is oldest across the wrap, and its slot is
empty from then on. A kind that Table 12-1 does not name is refused with UNKNOWN_KIND, and then a payload of another size than its kind's
with BAD_LENGTH. That the refusal of another reset scope, which R173 gives, falls here is the model's reading (log 23). Any other payload
is the request of its kind (`RequestRoundTrip` says with which fields). That REQUEST_TAKE changes nothing where the handler is busy, a
reset waits or no frame is held is the model's choice (log 7). -/
def Obligations.OldestFrameTaken : Prop :=
  (∀ s : State, s.handler.current ≠ none ∨ s.handler.reset ≠ .none ∨ heldFrames s.line.slots = [] →
      exec .requestTake s = .next s)
    ∧ (∀ s : State, s.handler.current = none → s.handler.reset = .none → heldFrames s.line.slots ≠ [] →
      ∃ (f : Slot) (sl : Slots) (u : State),
        (heldFrames s.line.slots).Perm (f :: heldFrames sl) ∧ u = { s with line := { s.line with slots := sl } }
        ∧ (∀ g ∈ heldFrames sl, (s.line.nextStamp + 65535 - g.stamp) % 65536 ≤ (s.line.nextStamp + 65535 - f.stamp) % 65536)
        ∧ (isReadingKind f.kind = true → f.addressing ≠ .unit → exec .requestTake s = .next u)
        ∧ (isReadingKind f.kind = false ∨ f.addressing = .unit →
            (∀ code, decodeRequest (slotVia f) f.kind f.payload = .refuse code →
              exec .requestTake s = .next (finish (slotVia f) f.kind f.seq false (.refused code) u))
            ∧ ∀ c, decodeRequest (slotVia f) f.kind f.payload = .request c →
              exec .requestTake s = .next { u with handler := { s.handler with current := some { slot := f, lost := false } } }))
    ∧ ∀ (v : Via) (kind : Byte) (payload : List Byte),
      (¬ KindNamed kind → decodeRequest v kind payload = .refuse .unknownKind)
      ∧ (KindNamed kind → ¬ SizeFits kind payload → decodeRequest v kind payload = .refuse .badLength)
      ∧ (∀ scope : Byte, kind = 0x03#8 → payload = [scope] → 1 < scope.toNat → decodeRequest v kind payload = .refuse .badField)
      ∧ (SizeFits kind payload → (kind = 0x03#8 → ∃ scope : Byte, payload = [scope] ∧ scope.toNat ≤ 1) →
        ∃ c, decodeRequest v kind payload = .request c ∧ requestVia c = some v ∧ requestKind c = kind)

/-- R164, R143, R166, R173 and R176: the first waiting reply is started, or withheld, and what the end of a reply acts on. The model's
choices: the receiver's state item keeps its value while the reply is sent (log 39); the start of a reply shows that a break is over (log
22); a count carried twice is taken off down to 0 at most (log 25); the overflow flag is cleared only where it has not been set again
since (log 27). The reply window and the idle time are not counted, so that the start and the withholding come with the command (log 11);
the reset, once due, waits for UNIT_RESET (log 24). -/
def Obligations.RepliesSent : Prop :=
  (∀ (s : State) (r : Reply) (rest : List Reply), s.line.waiting = r :: rest →
      (s.line.sending = none → (∀ got, s.line.rx ≠ .inFrame got) → exec .replyStart s = .next { s with line := { s.line with
          waiting := rest, sending := some r, breakOn := false, resetRaised := false } })
      ∧ exec .replyWithheld s = .next (dropReply r.carried { s with line := { s.line with waiting := rest } }))
    ∧ ∀ (s u : State) (r : Reply), s.line.sending = some r → u = { s with line := { s.line with sending := none, rx := .hunt } } →
      (r.carried = .nothing → exec .replySent s = .next u)
      ∧ (r.carried = .reset → exec .replySent s = .next { u with handler := { s.handler with reset := .due } })
      ∧ (∀ naks timeouts, r.carried = .panels naks timeouts → ∃ t : State, exec .replySent s = .next t
          ∧ t = { u with chain := { s.chain with recs := t.chain.recs } }
          ∧ ∀ p, t.chain.recs.get p = { s.chain.recs.get p with
              naks := (s.chain.recs.get p).naks - naks.get p, timeouts := (s.chain.recs.get p).timeouts - timeouts.get p })
      ∧ ∀ serials overflow sets trunc crc busy, r.carried = .status serials overflow sets trunc crc busy →
          exec .replySent s = .next { u with
            notices := { s.notices with
              queue := s.notices.queue.filter fun n => n.serial ∉ serials,
              overflow := if overflow = true ∧ s.notices.overflowSets = sets then false else s.notices.overflow },
            line := { u.line with trunc := s.line.trunc - trunc, crc := s.line.crc - crc, busy := s.line.busy - busy } }

/-- R157 and R165: SET_GROUPS and SET_REPLY_MODE. A reply to RESET_UNIT ALL that a change to SUPPRESSED discards makes the reset due
(R173). That the reset then waits for UNIT_RESET is the model's choice (log 24). -/
def Obligations.LineSettings : Prop :=
  (∀ (v : Via) (x y : Byte) (s : State) (a : Admitted) (good : Prop), admission (.setGroups v x y) s = some a →
      (good ↔ (x = 0#8 ∨ (64 ≤ x.toNat ∧ x.toNat ≤ 126)) ∧ (y = 0#8 ∨ (64 ≤ y.toNat ∧ y.toNat ≤ 126)) ∧ (x = y → x = 0#8)) →
      (¬ good → exec (.setGroups v x y) s = answered v (.setGroups v x y) a (.refused .badField) a.state)
      ∧ (good → exec (.setGroups v x y) s = answered v (.setGroups v x y) a (done [x, y])
          { a.state with line := { a.state.line with
              groupA := if x = 0#8 then none else some x.toNat, groupB := if y = 0#8 then none else some y.toNat } }))
    ∧ ∀ (v : Via) (m : Byte) (s : State) (a : Admitted), admission (.setReplyMode v m) s = some a →
      (1 < m.toNat → exec (.setReplyMode v m) s = answered v (.setReplyMode v m) a (.refused .badField) a.state)
      ∧ (m = 0#8 → exec (.setReplyMode v m) s = answered v (.setReplyMode v m) a (done [0#8])
          { a.state with line := { a.state.line with mode := .normal } })
      ∧ (m = 1#8 → exec (.setReplyMode v m) s = answered v (.setReplyMode v m) a (done [1#8])
          { a.state with line := { a.state.line with mode := .suppressed, waiting := [] },
                         handler := { current := none,
                                      reset := if ∃ r ∈ s.line.waiting, r.carried = .reset then .due else .none } })

/-! ### Reading requests (spec/12, spec/13 section 13.3) -/

/-- R172 and Table 13-8: STATUS, whose payload takes 32 bytes and 6 for each notice carried, the oldest four at most. Nothing is removed
when the reply is built. That the reply records the notices by serial number and the settings of the overflow flag is the model's choice
(log 27). -/
def Obligations.StatusReply : Prop :=
  ∀ (v : Via) (s : State) (a : Admitted) (carried : List Notice), v.addressing = .unit → admission (.status v) s = some a →
    carried = s.notices.queue.take 4 →
    ∃ fields : List Byte, fields.length = 31 + 6 * min 4 s.notices.queue.length
      ∧ fields = [boardModeByte s.board.mode, frameStateByte s.coder.state, clockStateByte s.clock.state] ++ num2 s.clock.day
          ++ num3 (s.clock.value / 16) ++ [supStateByte s.sup.state] ++ num2 s.sup.remaining
          ++ (match s.batch.stage with | none => [0#8, 0#8] | some b => [1#8, BitVec.ofNat 8 b.tag])
          ++ num1 s.table.records.length ++ num1 s.overlays.records.length
          ++ (match s.overlays.records with | [] => [0#8] | o :: _ => [BitVec.ofNat 8 o.id])
          ++ (match s.board.current with | none => [0xFF#8] | some i => [BitVec.ofNat 8 i.val])
          ++ num1 s.light.applied ++ Pos.all.map (fun p => panelStateByte (s.chain.recs.get p).state)
          ++ num1 s.line.trunc ++ num1 s.line.crc ++ num1 s.line.busy ++ flag1 s.notices.overflow ++ num1 s.notices.queue.length
          ++ carried.flatMap (fun n => num1 (classNum n.cls) ++ num1 n.code ++ num2 n.arg ++ num2 n.stamp)
      ∧ exec (.status v) s = answered v (.status v) a (.done fields (.status (carried.map fun n => n.serial) s.notices.overflow
          s.notices.overflowSets s.line.trunc s.line.crc s.line.busy)) a.state

/-- R171, R49, R154, R93, R105 and R143: what the replies to IDENTIFY, READ_CLOCK, READ_LIGHT, LIST_OVERLAYS, STORE_REPORT and
PANEL_REPORT carry, byte by byte. The byte of the chain activity is a free value (log 13). The widths of the IDENTIFY constants are the
model's reading (log 30). -/
def Obligations.BlockReplies : Prop :=
  ∀ (v : Via) (s : State) (a : Admitted), v.addressing = .unit →
    (admission (.identify v) s = some a → exec (.identify v) s = answered v (.identify v) a (done
        ([0x0A#8, 0x3D#8] ++ num2 2416 ++ [1#8] ++ num1 ((unitAddress s.line.straps).getD 0) ++ num1 (s.line.groupA.getD 0)
          ++ num1 (s.line.groupB.getD 0) ++ [resetCauseByte s.unit.cause] ++ num4 s.unit.uptime)) a.state)
    ∧ (admission (.readClock v) s = some a → exec (.readClock v) s = answered v (.readClock v) a (done
        ([clockStateByte s.clock.state] ++ num2 s.clock.day ++ num3 (s.clock.value / 16) ++ num1 (s.clock.value % 16)
          ++ signed2 s.clock.slew ++ num1 s.clock.agree ++ num2 s.clock.age ++ num1 s.clock.k ++ num1 s.clock.tol
          ++ num2 s.clock.coastAfter ++ num2 s.clock.lapseAfter ++ flag1 s.board.allowed)) a.state)
    ∧ (admission (.readLight v) s = some a → exec (.readLight v) s = answered v (.readLight v) a (done
        (num2 s.light.last ++ [sensorByte s.light.sensor] ++ num1 s.light.target ++ num1 s.light.goal ++ num1 s.light.applied
          ++ [brightModeByte s.light.mode] ++ num1 s.light.fixed ++ num1 s.light.hyst ++ num1 s.light.slew ++ num1 s.light.bmin
          ++ num1 s.light.bmax ++ s.light.curve.flatMap fun p => num2 p.c ++ num1 p.b)) a.state)
    ∧ (admission (.listOverlays v) s = some a → exec (.listOverlays v) s = answered v (.listOverlays v) a (done
        (num1 s.overlays.records.length ++ num4 s.overlays.shownSince
          ++ s.overlays.records.flatMap fun o => num1 o.id ++ num2 o.remaining)) a.state)
    ∧ (admission (.storeReport v) s = some a → exec (.storeReport v) s = answered v (.storeReport v) a (done
        (num2 s.phrases.length ++ num2 (s.phrases.map fun p => p.v0.length + p.v1.length + p.v2.length).sum
          ++ [s.fonts.f1, s.fonts.f2, s.fonts.f3].flatMap (fun f => match f with
              | none => [1#8, 0#8, 0#8, 0#8, 0#8, 0#8, 0#8]
              | some f => [0#8] ++ num1 f.height ++ num1 f.spacing ++ num2 f.glyphs.length
                  ++ num2 (f.glyphs.map fun g => f.height * ((g.width + 7) / 8)).sum)
          ++ num2 (bytesUsed s.fonts))) a.state)
    ∧ (admission (.panelReport v) s = some a → exec (.panelReport v) s = answered v (.panelReport v) a (.done
        (num1 s.chain.count ++ num1 s.chain.found ++ [Config.chainActivityByte (activity s.chain.work)] ++ num1 s.chain.retryLimit
          ++ num1 s.chain.faultAfter ++ num1 s.chain.probeEvery
          ++ Pos.all.flatMap (fun p => [panelStateByte (s.chain.recs.get p).state] ++ flag1 (s.board.places.get p).isSome
              ++ num1 (s.chain.recs.get p).fails ++ num1 (s.chain.recs.get p).naks ++ num1 (s.chain.recs.get p).timeouts))
        (.panels (Per8.tabulate fun p => (s.chain.recs.get p).naks) (Per8.tabulate fun p => (s.chain.recs.get p).timeouts))) a.state)

/-- R16 and R17: READ_DEPARTURE and LIST_DEPARTURES. -/
def Obligations.TableQueries : Prop :=
  (∀ (v : Via) (trip : BitVec 16) (s : State) (a : Admitted), v.addressing = .unit → admission (.readDeparture v trip) s = some a →
      (trip = 0#16 → exec (.readDeparture v trip) s = answered v (.readDeparture v trip) a (.refused .badField) a.state)
      ∧ (trip ≠ 0#16 → (∀ r ∈ s.table.records, r.dep.trip ≠ trip.toNat) →
          exec (.readDeparture v trip) s = answered v (.readDeparture v trip) a (.refused .notFound) a.state)
      ∧ ∀ before r after, trip ≠ 0#16 → s.table.records = before ++ r :: after → r.dep.trip = trip.toNat →
          (∀ q ∈ before, q.dep.trip ≠ trip.toNat) →
          exec (.readDeparture v trip) s = answered v (.readDeparture v trip) a (done
            (bytes16 trip ++ num1 r.dep.platform ++ num2 r.dep.linePh ++ num2 r.dep.destPh ++ num3 r.dep.scheduled
              ++ num3 (r.dep.predicted.getD 0xFFFFFF) ++ [statusByte r.dep.status, BitVec.ofNat 8 before.length, formByte r.form]
              ++ num1 (r.shown.getD 0) ++ num1 r.rise)) a.state)
    ∧ ∀ (v : Via) (start : Byte) (s : State) (a : Admitted), v.addressing = .unit → admission (.listDepartures v start) s = some a →
      (95 < start.toNat →
          exec (.listDepartures v start) s = answered v (.listDepartures v start) a (.refused .badField) a.state)
      ∧ (start.toNat ≤ 95 → ∃ trips : List Nat, trips.length = min 16 (s.table.records.length - start.toNat)
          ∧ (∀ i, i < trips.length → trips[i]? = (s.table.records[start.toNat + i]?).map fun r => r.dep.trip)
          ∧ exec (.listDepartures v start) s = answered v (.listDepartures v start) a (done
              ([start] ++ num1 s.table.records.length ++ trips.flatMap num2)) a.state)

/-- R70: QUERY_LINE. Its payload takes 16 bytes whether the line records are built or not. The time value of a DEPARTURE line takes three
bytes: the shown minutes, the phrase id, the time in seconds, or 0xFFFFFF where the field is empty. That the mode is checked before the
field is the model's reading (log 15). That an index above 7 is refused with BAD_FIELD also while no page is current is the model's choice
(log 55). -/
def Obligations.LineQuery : Prop :=
  ∀ (v : Via) (index : Byte) (s : State) (a : Admitted), v.addressing = .unit → admission (.queryLine v index) s = some a →
    (s.board.mode ≠ .run → s.board.mode ≠ .hold →
        exec (.queryLine v index) s = answered v (.queryLine v index) a (.refused .wrongMode) a.state)
    ∧ (s.board.mode = .run ∨ s.board.mode = .hold → 7 < index.toNat →
        exec (.queryLine v index) s = answered v (.queryLine v index) a (.refused .badField) a.state)
    ∧ (s.board.mode = .run ∨ s.board.mode = .hold → index.toNat ≤ 7 → s.board.current = none →
        exec (.queryLine v index) s = answered v (.queryLine v index) a (.refused .notFound) a.state)
    ∧ ∀ i p, s.board.mode = .run ∨ s.board.mode = .hold → index.toNat ≤ 7 → s.board.current = some i →
        pageAt s.board.pages i = some p →
        (p.lines.length ≤ index.toNat →
          exec (.queryLine v index) s = answered v (.queryLine v index) a (.refused .notFound) a.state)
        ∧ ∀ l, p.lines[index.toNat]? = some l → ∃ items : List Byte, items.length = 10
          ∧ exec (.queryLine v index) s = answered v (.queryLine v index) a (done
              ([BitVec.ofNat 8 i.val, index, lineKindByte l.kind] ++ flag1 s.board.lines.isSome ++ items ++ flag1 s.board.pending)) a.state
          ∧ (s.board.lines = none → items = List.replicate 10 0#8)
          ∧ ∀ rs r, s.board.lines = some rs → rs[index.toNat]? = some r →
              (∀ sel form value n, r.content = .departure sel form value →
                n = (match value with | .minutes m _ => m | .phrase i => i | .time t => t | .none => 0xFFFFFF) → items =
                num2 ((sel.map fun x => x.trip).getD 0) ++ [formByte form, 0xFF#8] ++ bytes24 (BitVec.ofNat 24 n) ++ num2 (r.drawn.getD 0)
                  ++ flag1 r.covered)
              ∧ (∀ st time, r.content = .clock st time → items =
                [0#8, 0#8, 0xFF#8, clockStateByte st] ++ num3 (time.getD 0xFFFFFF) ++ num2 (r.drawn.getD 0) ++ flag1 r.covered)
              ∧ ∀ id, r.content = .phrase id ∨ r.content = .band id → items =
                [0#8, 0#8, 0xFF#8, 0xFF#8, 0xFF#8, 0xFF#8, 0xFF#8] ++ num2 (r.drawn.getD 0) ++ flag1 r.covered

/-! ### Notices (spec/12 section 12.4) -/

/-- R174 and R175: the queue takes an offer, and ENABLE_NOTICES. Bit n of a class set is class number n (R178). A notice's class and code
are given by `noticeClass` and `noticeCode`. The serial number given to a queued notice is the model's choice (log 27). -/
def Obligations.NoticesOfferedAndEnabled : Prop :=
  (∀ (q : Notices) (k : NoticeKind) (arg uptime : Nat),
      (enableOf q.enables (noticeClass k) = false → offerTo q k arg uptime = q)
      ∧ (enableOf q.enables (noticeClass k) = true → q.queue.length < 8 →
          (offerTo q k arg uptime).queue = q.queue ++
            [{ serial := q.serial, cls := noticeClass k, code := noticeCode k, arg := arg, stamp := uptime % 65536 }]
          ∧ (∀ c, enableOf (offerTo q k arg uptime).enables c = (enableOf q.enables c && decide (c ≠ noticeClass k)))
          ∧ (offerTo q k arg uptime).overflow = q.overflow)
      ∧ (enableOf q.enables (noticeClass k) = true → 8 ≤ q.queue.length →
          (offerTo q k arg uptime).queue = q.queue ∧ (offerTo q k arg uptime).enables = q.enables
          ∧ (offerTo q k arg uptime).overflow = true))
    ∧ ∀ (v : Via) (m : BitVec 16) (s : State) (a : Admitted), admission (.enableNotices v m) s = some a →
      (512 ≤ m.toNat → exec (.enableNotices v m) s = answered v (.enableNotices v m) a (.refused .badField) a.state)
      ∧ (m.toNat < 512 → ∃ (e : Enables) (set : BitVec 16),
          (∀ c, enableOf e c = (enableOf s.notices.enables c || m.getLsbD (classNum c)))
          ∧ set.toNat < 512 ∧ (∀ c, set.getLsbD (classNum c) = enableOf e c)
          ∧ exec (.enableNotices v m) s = answered v (.enableNotices v m) a (done (bytes16 set))
              { a.state with notices := { s.notices with enables := e } })

/-! ### The Service Clock's requests (spec/03 sections 3.3 and 3.4) -/

/-- R42 to R46 and R14: TIME_MARK in each clock state. `recompute` is the permission rule (`PermissionRecomputed`). A mark that agrees
while the value stands at the hold leaves the clock held, so that its slew stands until the next slew point (R45, log 16). -/
def Obligations.TimeMarkTaken : Prop :=
  ∀ (v : Via) (day : BitVec 16) (sec : BitVec 24) (six : Byte) (s : State) (a : Admitted) (m : Nat) (d shownD : Int) (agrees : Prop),
    admission (.timeMark v day sec six) s = some a → m = sec.toNat * 16 + six.toNat → d = (m : Int) - s.clock.value →
    shownD = max (-32768) (min 32767 d) → (agrees ↔ d.natAbs ≤ s.clock.tol * 16) →
    (107999 < sec.toNat ∨ 15 < six.toNat →
      exec (.timeMark v day sec six) s = answered v (.timeMark v day sec six) a (.refused .badField) a.state)
    ∧ (sec.toNat ≤ 107999 → six.toNat ≤ 15 →
      (s.clock.state = .unset → exec (.timeMark v day sec six) s = answered v (.timeMark v day sec six) a (done [1#8, 0#8, 0#8, 0#8])
        (recompute { a.state with
          clock := { s.clock with state := .acquiring, day := day.toNat, value := m, slew := 0, agree := 0, age := 0 } }))
      ∧ (s.clock.state ≠ .unset → day.toNat ≠ s.clock.day →
        exec (.timeMark v day sec six) s = answered v (.timeMark v day sec six) a (done [1#8, 1#8, 0#8, 0#8])
          (recompute { a.state with
            clock := { s.clock with state := .acquiring, day := day.toNat, value := m, slew := 0, agree := 0, age := 0 },
            table := { s.table with records := [] },
            notices := offerTo s.notices .clockDayChanged day.toNat s.unit.uptime }))
      ∧ (s.clock.state = .acquiring → day.toNat = s.clock.day → agrees → s.clock.agree + 1 < s.clock.k →
        exec (.timeMark v day sec six) s = answered v (.timeMark v day sec six) a (done ([1#8, 2#8] ++ signed2 shownD))
          (recompute { a.state with clock := { s.clock with
            slew := d, agree := s.clock.agree + 1, age := 0, held := decide (s.clock.value = 1727999) } }))
      ∧ (s.clock.state = .acquiring → day.toNat = s.clock.day → agrees → s.clock.k ≤ s.clock.agree + 1 →
        exec (.timeMark v day sec six) s = answered v (.timeMark v day sec six) a (done ([2#8, 2#8] ++ signed2 shownD))
          (recompute { a.state with
            clock := { s.clock with
              state := .locked, slew := d, agree := 0, age := 0, held := decide (s.clock.value = 1727999) },
            notices := offerTo s.notices .clockLocked s.clock.k s.unit.uptime }))
      ∧ (s.clock.state = .locked ∨ s.clock.state = .coasting → day.toNat = s.clock.day → agrees →
        exec (.timeMark v day sec six) s = answered v (.timeMark v day sec six) a (done ([2#8, 2#8] ++ signed2 shownD))
          (recompute { a.state with clock := { s.clock with
            state := .locked, slew := d, age := 0, held := decide (s.clock.value = 1727999) } }))
      ∧ (s.clock.state = .locked ∨ s.clock.state = .coasting → day.toNat = s.clock.day → ¬ agrees →
        exec (.timeMark v day sec six) s = answered v (.timeMark v day sec six) a (done ([1#8, 3#8] ++ signed2 shownD))
          (recompute { a.state with
            clock := { s.clock with state := .acquiring, value := m, slew := 0, agree := 0, age := 0 },
            notices := offerTo s.notices .clockStepped (min 65535 (d.natAbs / 16)) s.unit.uptime }))
      ∧ ((s.clock.state = .acquiring ∧ ¬ agrees) ∨ s.clock.state = .lapsed → day.toNat = s.clock.day →
        exec (.timeMark v day sec six) s = answered v (.timeMark v day sec six) a (done ([1#8, 3#8] ++ signed2 shownD))
          (recompute { a.state with clock := { s.clock with state := .acquiring, value := m, slew := 0, agree := 0, age := 0 } })))

/-- R12, R25, R48, R72 and R142: the requests that set rules clamp each value into its range and answer with what is in force. SET_CLOCK_RULES
brings the pending slew within the new tolerance. SET_COUNTDOWN clears the derived display state and, in a declared board, evaluates. -/
def Obligations.RulesSet : Prop :=
  (∀ (v : Via) (m : BitVec 16) (s : State) (a : Admitted) (n : Nat), admission (.setRetirement v m) s = some a →
      n = max 30 (min 600 m.toNat) →
      exec (.setRetirement v m) s = answered v (.setRetirement v m) a (done (num2 n))
        { a.state with table := { s.table with retireAfter := n } })
    ∧ (∀ (v : Via) (gap total : Byte) (s : State) (a : Admitted) (g w : Nat), admission (.setBatchWindows v gap total) s = some a →
      g = max 1 (min 30 gap.toNat) → w = max 5 (min 120 total.toNat) →
      exec (.setBatchWindows v gap total) s = answered v (.setBatchWindows v gap total) a (done [BitVec.ofNat 8 g, BitVec.ofNat 8 w])
        { a.state with batch := { s.batch with g := g, w := w } })
    ∧ (∀ (v : Via) (k tol : Byte) (coast lapse : BitVec 16) (s : State) (a : Admitted) (r : Clock),
      admission (.setClockRules v k tol coast lapse) s = some a →
      r = { s.clock with k := max 1 (min 4 k.toNat), tol := max 1 (min 8 tol.toNat), coastAfter := max 30 (min 600 coast.toNat),
                         lapseAfter := max 60 (min 7200 lapse.toNat),
                         slew := max (-(16 * max 1 (min 8 tol.toNat) : Int)) (min (16 * max 1 (min 8 tol.toNat) : Int) s.clock.slew) } →
      exec (.setClockRules v k tol coast lapse) s = answered v (.setClockRules v k tol coast lapse) a
        (done ([BitVec.ofNat 8 r.k, BitVec.ofNat 8 r.tol] ++ num2 r.coastAfter ++ num2 r.lapseAfter)) { a.state with clock := r })
    ∧ (∀ (v : Via) (retry fault probe : Byte) (s : State) (a : Admitted) (r f e : Nat), admission (.setChainRules v retry fault probe) s = some a →
      r = min 7 retry.toNat → f = max 1 (min 15 fault.toNat) → e = max 5 (min 60 probe.toNat) →
      exec (.setChainRules v retry fault probe) s = answered v (.setChainRules v retry fault probe) a
        (done [BitVec.ofNat 8 r, BitVec.ofNat 8 f, BitVec.ofNat 8 e])
        { a.state with chain := { s.chain with retryLimit := r, faultAfter := f, probeEvery := e } })
    ∧ ∀ (v : Via) (x : RawCountdown) (s u : State) (a : Admitted) (c : Countdown), admission (.setCountdown v x) s = some a →
      c = { due := min 120 x.due.toNat, bias := min 59 x.bias.toNat, maxMin := max 1 (min 99 x.maxMin.toNat),
            rise := max 1 (min 8 x.rise.toNat), suffix := max 1 (min 1023 x.suffix.toNat), duePh := max 1 (min 1023 x.duePh.toNat),
            cancelled := max 1 (min 1023 x.cancelled.toNat), delayed := max 1 (min 1023 x.delayed.toNat),
            held := max 1 (min 1023 x.held.toNat) } →
      u = { a.state with
            board := { s.board with countdown := c },
            table := { s.table with records := s.table.records.map fun r =>
              { r with form := if r.form = .minutes then .empty else r.form, shown := none, rise := 0 } } } →
      exec (.setCountdown v x) s = answered v (.setCountdown v x) a
        (done ([BitVec.ofNat 8 c.due, BitVec.ofNat 8 c.bias, BitVec.ofNat 8 c.maxMin, BitVec.ofNat 8 c.rise] ++ num2 c.suffix
          ++ num2 c.duePh ++ num2 c.cancelled ++ num2 c.delayed ++ num2 c.held))
        (if s.board.mode = .unconfigured then u else evaluate false u)

/-! ### Batches and the supervisor (spec/02) -/

/-- R20 to R23: BATCH_OPEN, PUT_DEPARTURE and DROP_DEPARTURE. -/
def Obligations.BatchOpenedAndFilled : Prop :=
  (∀ (v : Via) (tag mode : Byte) (s : State) (a : Admitted), admission (.batchOpen v tag mode) s = some a →
      (tag = 0#8 ∨ 1 < mode.toNat →
        exec (.batchOpen v tag mode) s = answered v (.batchOpen v tag mode) a (.refused .badField) a.state)
      ∧ ∀ x : Batch, tag ≠ 0#8 → (mode = 0#8 ∧ x.staged = .replace []) ∨ (mode = 1#8 ∧ x.staged = .merge []) → x.tag = tag.toNat →
        x.gap = s.batch.g → x.total = s.batch.w →
        (s.batch.stage = none → exec (.batchOpen v tag mode) s = answered v (.batchOpen v tag mode) a (done [0#8])
          { a.state with batch := { s.batch with stage := some x } })
        ∧ ∀ old, s.batch.stage = some old → exec (.batchOpen v tag mode) s = answered v (.batchOpen v tag mode) a (done [1#8])
          { a.state with batch := { s.batch with stage := some x },
                         notices := offerTo s.notices .batchSuperseded old.tag s.unit.uptime })
    ∧ (∀ (v : Via) (x : RawDeparture) (trip : BitVec 16) (s : State) (a : Admitted), s.batch.stage = none →
      (admission (.putDeparture v x) s = some a →
        exec (.putDeparture v x) s = answered v (.putDeparture v x) a (.refused .noBatch) a.state)
      ∧ (admission (.dropDeparture v trip) s = some a →
        exec (.dropDeparture v trip) s = answered v (.dropDeparture v trip) a (.refused .noBatch) a.state))
    ∧ (∀ (v : Via) (x : RawDeparture) (s : State) (a : Admitted) (b : Batch), s.batch.stage = some b →
      (admission (.putDeparture v x) s = some a → BadDeparture x →
        exec (.putDeparture v x) s = answered v (.putDeparture v x) a (.refused .badField)
          { a.state with batch := { s.batch with stage := some { b with gap := s.batch.g } } })
      ∧ (admission (.dropDeparture v 0#16) s = some a →
        exec (.dropDeparture v 0#16) s = answered v (.dropDeparture v 0#16) a (.refused .badField)
          { a.state with batch := { s.batch with stage := some { b with gap := s.batch.g } } }))
    ∧ (∀ (v : Via) (d : Departure) (trip : BitVec 16) (s : State) (a : Admitted) (b : Batch) (set : List Departure),
      s.batch.stage = some b → b.staged = .replace set → set.Pairwise (fun p q => p.trip < q.trip) → DepartureOk d →
      (admission (.putDeparture v (rawDeparture d)) s = some a →
        ((∃ q ∈ set, q.trip = d.trip) ∨ set.length < 96 → ∃ set' : List Departure,
          set'.Perm (d :: set.filter fun q => q.trip ≠ d.trip) ∧ set'.Pairwise (fun p q => p.trip < q.trip)
          ∧ exec (.putDeparture v (rawDeparture d)) s =
              answered v (.putDeparture v (rawDeparture d)) a (done [BitVec.ofNat 8 set'.length])
                { a.state with batch := { s.batch with stage := some { b with staged := .replace set', gap := s.batch.g } } })
        ∧ ((∀ q ∈ set, q.trip ≠ d.trip) → 96 ≤ set.length → exec (.putDeparture v (rawDeparture d)) s =
          answered v (.putDeparture v (rawDeparture d)) a (.refused .tableFull)
            { a.state with batch := { s.batch with stage := some { b with gap := s.batch.g } } }))
      ∧ (admission (.dropDeparture v trip) s = some a → trip ≠ 0#16 → exec (.dropDeparture v trip) s =
          answered v (.dropDeparture v trip) a (done [BitVec.ofNat 8 (set.filter fun q => q.trip ≠ trip.toNat).length])
            { a.state with batch := { s.batch with stage := some { b with
                staged := .replace (set.filter fun q => q.trip ≠ trip.toNat), gap := s.batch.g } } }))
    ∧ ∀ (v : Via) (d : Departure) (trip : BitVec 16) (s : State) (a : Admitted) (b : Batch) (cs : List Change) (c : Instr) (e : Change),
      s.batch.stage = some b → b.staged = .merge cs → DepartureOk d → admission c s = some a →
      (c = .putDeparture v (rawDeparture d) ∧ e = .put d) ∨ (c = .dropDeparture v trip ∧ trip ≠ 0#16 ∧ e = .drop trip.toNat) →
      ((∃ q ∈ cs, changeTrip q = changeTrip e) → exec c s = answered v c a (done [BitVec.ofNat 8 cs.length])
          { a.state with batch := { s.batch with stage := some { b with
              staged := .merge (cs.map fun q => if changeTrip q = changeTrip e then e else q), gap := s.batch.g } } })
      ∧ ((∀ q ∈ cs, changeTrip q ≠ changeTrip e) → cs.length < 48 → exec c s =
          answered v c a (done [BitVec.ofNat 8 (cs.length + 1)])
            { a.state with batch := { s.batch with stage := some { b with staged := .merge (cs ++ [e]), gap := s.batch.g } } })
      ∧ ((∀ q ∈ cs, changeTrip q ≠ changeTrip e) → 48 ≤ cs.length → exec c s = answered v c a (.refused .tableFull)
          { a.state with batch := { s.batch with stage := some { b with gap := s.batch.g } } })

/-- R26 to R28, R34 and R35: BATCH_CLOSE. A good close publishes, offers each trim, and services the supervisor; a bad close discards
and expires an armed supervisor. -/
def Obligations.BatchClosed : Prop :=
  (∀ (v : Via) (tag : Byte) (s : State) (a : Admitted) (b : Batch), admission (.batchClose v tag) s = some a → s.batch.stage = some b →
      b.tag = tag.toNat → ∃ (rs : List Live) (trims : List Nat) (u : State),
        u = { a.state with table := { s.table with records := rs }, batch := { s.batch with stage := none },
                           notices := trims.foldl (fun q t => offerTo q .tableTrimmed t s.unit.uptime) s.notices }
        ∧ (∀ set, b.staged = .replace set → TableOk s.table → StagedOk b.staged → trims = []
            ∧ (rs.map fun r => r.dep).Perm set ∧ rs.Pairwise (fun p q => comesBefore p.dep q.dep = true)
            ∧ ∀ r ∈ rs, (∀ o ∈ s.table.records, o.dep.trip = r.dep.trip → r = { o with dep := r.dep })
                ∧ ((∀ o ∈ s.table.records, o.dep.trip ≠ r.dep.trip) → r = { dep := r.dep, form := .empty, shown := none, rise := 0 }))
        ∧ (∀ cs, b.staged = .merge cs → rs = (applyChanges cs s.table.records).1 ∧ trims = (applyChanges cs s.table.records).2)
        ∧ (s.sup.state = .disarmed → exec (.batchClose v tag) s =
            answered v (.batchClose v tag) a (done [BitVec.ofNat 8 rs.length, BitVec.ofNat 8 trims.length]) u)
        ∧ (s.sup.state = .armed → exec (.batchClose v tag) s =
            answered v (.batchClose v tag) a (done [BitVec.ofNat 8 rs.length, BitVec.ofNat 8 trims.length])
              { u with sup := { s.sup with remaining := s.sup.period } })
        ∧ (s.sup.state = .expired → exec (.batchClose v tag) s =
            answered v (.batchClose v tag) a (done [BitVec.ofNat 8 rs.length, BitVec.ofNat 8 trims.length])
              (recompute { u with sup := { s.sup with state := .armed, remaining := s.sup.period },
                                  notices := offerTo u.notices .supRestored s.sup.period s.unit.uptime })))
    ∧ ∀ (v : Via) (tag : Byte) (s : State) (a : Admitted) (code : ResultCode), admission (.batchClose v tag) s = some a →
      (s.batch.stage = none ∧ code = .noBatch) ∨ ((∃ b, s.batch.stage = some b ∧ b.tag ≠ tag.toNat) ∧ code = .tagMismatch) →
      (s.sup.state ≠ .armed → exec (.batchClose v tag) s = answered v (.batchClose v tag) a (.refused code)
          { a.state with batch := { s.batch with stage := none } })
      ∧ (s.sup.state = .armed → exec (.batchClose v tag) s = answered v (.batchClose v tag) a (.refused code)
          (recompute { a.state with batch := { s.batch with stage := none }, sup := { s.sup with state := .expired, remaining := 0 },
                                    notices := offerTo s.notices .supExpired 1 s.unit.uptime }))

/-- R6 to R8 and R28: placing a record in the live table, removing by trip id, and a change list entry by entry. -/
def Obligations.PlacingAndRemoving : Prop :=
  (∀ (t : Table) (d : Departure), TableOk t →
      (∀ r ∈ t.records, r.dep.trip = d.trip → ∃ rs, place d t.records = (rs, none)
          ∧ rs.Perm ({ r with dep := d } :: t.records.filter fun q => q.dep.trip ≠ d.trip)
          ∧ rs.Pairwise (fun p q => comesBefore p.dep q.dep = true) ∧ rs.length = t.records.length)
      ∧ ((∀ r ∈ t.records, r.dep.trip ≠ d.trip) → ∃ rs last : List Live,
          (rs ++ last).Perm ({ dep := d, form := .empty, shown := none, rise := 0 } :: t.records)
          ∧ (rs ++ last).Pairwise (fun p q => comesBefore p.dep q.dep = true)
          ∧ (t.records.length < 96 → last = [] ∧ place d t.records = (rs, none))
          ∧ (t.records.length = 96 → ∃ x, last = [x] ∧ place d t.records = (rs, some x.dep.trip)))
      ∧ (∀ trip, (∀ r ∈ t.records, r.dep.trip ≠ trip) → removeTrip trip t.records = t.records)
      ∧ ∀ before r after, t.records = before ++ r :: after → removeTrip r.dep.trip t.records = before ++ after)
    ∧ ∀ (d : Departure) (trip : Nat) (cs : List Change) (rs : List Live),
      applyChanges [] rs = (rs, [])
      ∧ applyChanges (.put d :: cs) rs =
          ((applyChanges cs (place d rs).1).1, (place d rs).2.toList ++ (applyChanges cs (place d rs).1).2)
      ∧ applyChanges (.drop trip :: cs) rs = applyChanges cs (removeTrip trip rs)

/-- R32: SET_SUPERVISOR. -/
def Obligations.SupervisorSet : Prop :=
  ∀ (v : Via) (period : BitVec 16) (action hold arm : Byte) (s : State) (a : Admitted),
    admission (.setSupervisor v period action hold arm) s = some a →
    (s.sup.state ≠ .disarmed → exec (.setSupervisor v period action hold arm) s =
      answered v (.setSupervisor v period action hold arm) a (.refused .wrongMode) a.state)
    ∧ (s.sup.state = .disarmed → 2 < action.toNat ∨ 1 < hold.toNat ∨ 1 < arm.toNat →
      exec (.setSupervisor v period action hold arm) s =
        answered v (.setSupervisor v period action hold arm) a (.refused .badField) a.state)
    ∧ ∀ (act : SupAction) (h : HoldBehaviour) (p : Nat), s.sup.state = .disarmed → action = supActionByte act → hold = holdByte h →
      arm.toNat ≤ 1 → p = max 10 (min 900 period.toNat) →
      exec (.setSupervisor v period action hold arm) s =
        answered v (.setSupervisor v period action hold arm) a (done ([arm] ++ num2 p ++ [action, hold]))
          { a.state with sup := { state := if arm = 1#8 then .armed else .disarmed, period := p, action := act, hold := h,
                                  remaining := if arm = 1#8 then p else 0 } }

/-! ### The board (spec/04) -/

/-- R53, R129, R130, R132, R133, R54 and R179: SET_BOARD, and enumeration to its end. That the board mode and the frame state are checked
before the fields is the model's reading (log 15), and so is that F keeps its value at SET_BOARD (log 26). That the chain activity stays
PROBING from a SET_BOARD during a probe round until the window of the outstanding PROBE closes is the model's choice (log 42). The chain
enumerates or delivers in no state that a run reaches at a SET_BOARD that is taken. The model's choices are also that waiting work takes
the chain in a row of its own, so that ENUMERATION_START follows the closed window, and that the end of the enumeration leaves the chain
IDLE for a round or a frame that waits (log 20), and that the enumeration's wait ends with the command (log 11). -/
def Obligations.BoardDeclaredAndEnumerated : Prop :=
  (∀ (v : Via) (width : BitVec 16) (height count : Byte) (s : State) (a : Admitted) (fits : Prop),
      admission (.setBoard v width height count) s = some a →
      (fits ↔ 64 ≤ width.toNat ∧ width.toNat ≤ 512 ∧ width.toNat % 64 = 0 ∧ 16 ≤ height.toNat ∧ height.toNat ≤ 128
        ∧ height.toNat % 16 = 0 ∧ 1 ≤ count.toNat ∧ count.toNat ≤ 8) →
      (s.board.mode ≠ .unconfigured → s.board.mode ≠ .blank → exec (.setBoard v width height count) s =
          answered v (.setBoard v width height count) a (.refused .wrongMode) a.state)
      ∧ (s.board.mode = .blank → s.coder.state ≠ .idle → exec (.setBoard v width height count) s =
          answered v (.setBoard v width height count) a (.refused .busy) a.state)
      ∧ (s.board.mode = .unconfigured ∨ (s.board.mode = .blank ∧ s.coder.state = .idle) → ¬ fits →
          exec (.setBoard v width height count) s = answered v (.setBoard v width height count) a (.refused .badField) a.state)
      ∧ ∀ (w : ChainWork) (o : Option Packet), s.board.mode = .unconfigured ∨ (s.board.mode = .blank ∧ s.coder.state = .idle) → fits →
          (s.chain.work = .idle ∧ w = .enumerating ∧ o = some (.enumerate 1#8))
            ∨ (∃ p rest ended, s.chain.work = .probing p rest ended ∧ w = .probing p [] true ∧ o = s.chain.out) →
          exec (.setBoard v width height count) s = answered v (.setBoard v width height count) a (done [])
            (recompute { a.state with
              board := { s.board with
                mode := .enumerating, width := width.toNat, height := height.toNat, panelCount := count.toNat,
                places := Per8.all none, pages := ⟨none, none, none, none⟩, current := none, dwell := 0, lines := none,
                canvas := List.replicate height.toNat (List.replicate width.toNat 0#4), pending := false,
                kept := [], rendered := false },
              coder := { s.coder with dirty := Per8.all false, palDirty := Per8.all false },
              chain := { s.chain with
                recs := Per8.all { state := .absent, fails := 0, naks := 0, timeouts := 0 }, count := 0, work := w, out := o } }))
    ∧ (∀ s : State, s.board.mode = .enumerating → s.chain.work = .idle → exec .enumerationStart s =
        .next { s with chain := { s.chain with work := .enumerating, out := some (.enumerate 1#8) } })
    ∧ (∀ (s : State) (m : Byte) (raw : List Byte), s.chain.work = .enumerating →
        (∀ (c : Nat) (cmd : Instr) (u : State),
          (m ≠ 0#8 ∧ cmd = .enumerationComplete (packetBytes (.enumerate m)) ∧ c = m.toNat - 1) ∨ (cmd = .enumerationTimeout ∧ c = 0) →
          u = { s with
                board := { s.board with mode := .blank },
                chain := { s.chain with
                  count := c, found := min c s.board.panelCount, work := .idle,
                  recs := Per8.tabulate fun p => { state := if p.val < min c s.board.panelCount then .active else .absent,
                                                   fails := 0, naks := 0, timeouts := 0 } },
                notices := if c ≤ s.board.panelCount then offerTo s.notices .panelBoardReady c s.unit.uptime
                           else offerTo s.notices .panelExtra c s.unit.uptime } →
          exec cmd s = .next (settle u))
        ∧ ((∀ k : Byte, k ≠ 0#8 → raw ≠ packetBytes (.enumerate k)) → exec (.enumerationComplete raw) s = .next s))

/-- R55, R56 and R59: SET_PANEL. `PanelFits` holds the checks of R55. That the mode is checked before the fields is the model's reading
(log 15). -/
def Obligations.PanelPlaced : Prop :=
  ∀ (v : Via) (x : RawPanel) (s : State) (a : Admitted), admission (.setPanel v x) s = some a →
    (s.board.mode = .unconfigured ∨ s.board.mode = .enumerating →
      exec (.setPanel v x) s = answered v (.setPanel v x) a (.refused .wrongMode) a.state)
    ∧ (s.board.mode ≠ .unconfigured → s.board.mode ≠ .enumerating →
      ((∀ p, ¬ PanelFits s x p) → exec (.setPanel v x) s = answered v (.setPanel v x) a (.refused .badField) a.state)
      ∧ ∀ (p : Pos) (u : State), PanelFits s x p →
        u = { a.state with
              board := { s.board with places := s.board.places.set p (some
                { x := x.x.toNat, y := x.y.toNat, width := x.width.toNat, height := x.height.toNat, scan := x.scan.toNat,
                  gainR := x.gainR.toNat, gainG := x.gainG.toNat, gainB := x.gainB.toNat }) },
              coder := { s.coder with dirty := s.coder.dirty.set p true, palDirty := s.coder.palDirty.set p true } } →
        exec (.setPanel v x) s =
          answered v (.setPanel v x) a (done []) (settle (if s.board.mode = .test then requestRender u else u)))

/-- R57 to R60: SET_MODE. `choice` is the rule of R64 (`PageChoice`). Where RUN chooses the page that was current, its line records are
not built but not discarded (R66), so that the marks of the last render stand (R100); holding them as `kept` is the model's (log 17), as
is whether the page has been rendered (log 40). That the mode is checked before the field is the model's reading (log 15). -/
def Obligations.ModeSet : Prop :=
  ∀ (v : Via) (b : Byte) (s : State) (a : Admitted), admission (.setMode v b) s = some a →
    (s.board.mode = .unconfigured ∨ s.board.mode = .enumerating →
      exec (.setMode v b) s = answered v (.setMode v b) a (.refused .wrongMode) a.state)
    ∧ (s.board.mode ≠ .unconfigured → s.board.mode ≠ .enumerating →
      (b.toNat < 2 ∨ 5 < b.toNat → exec (.setMode v b) s = answered v (.setMode v b) a (.refused .badField) a.state)
      ∧ (b = boardModeByte s.board.mode → b ≠ 3#8 → exec (.setMode v b) s = answered v (.setMode v b) a (done []) a.state)
      ∧ ∀ (d : Nat) (old : List LineRecord) (seen : Bool), (∀ i p, choice s 0 = some i → pageAt s.board.pages i = some p → d = p.dwell) →
        (choice s 0 = none → d = 0) → old = (if choice s 0 = s.board.current then s.board.lines.getD s.board.kept else []) →
        seen = (s.board.rendered && decide (choice s 0 = s.board.current)) →
        (b = 3#8 → s.board.mode = .run → exec (.setMode v b) s = answered v (.setMode v b) a (done [])
          { a.state with board := { s.board with
            current := choice s 0, dwell := d, lines := none, kept := old, rendered := seen } })
        ∧ ∀ (c : Coder) (marks : PosSet), (∀ p, marks.get p =
              (s.coder.palDirty.get p || decide (s.board.mode = .blank ∨ b = 2#8) && (s.board.places.get p).isSome)) →
          c = { s.coder with palDirty := marks } → b ≠ boardModeByte s.board.mode →
          (b = 3#8 → exec (.setMode v b) s = answered v (.setMode v b) a (done []) (settle { a.state with
              coder := c, board := { s.board with
                mode := .run, current := choice s 0, dwell := d, lines := none, kept := old, rendered := seen } }))
          ∧ (b = 5#8 → exec (.setMode v b) s = answered v (.setMode v b) a (done []) (settle { a.state with
              coder := c, board := { s.board with mode := .hold } }))
          ∧ (b = 2#8 → exec (.setMode v b) s = answered v (.setMode v b) a (done []) (settle (requestRender { a.state with
              coder := c, board := { s.board with mode := .blank, lines := none, pending := false, kept := [], rendered := false } })))
          ∧ (b = 4#8 → exec (.setMode v b) s = answered v (.setMode v b) a (done []) (settle (requestRender { a.state with
              coder := c, board := { s.board with mode := .test, lines := none, pending := false, kept := [], rendered := false } }))))

/-- R61 to R63: SET_PAGE. `readLine` holds the checks of one line, which `LineReads` spells out from R61, R62 and Table 4-3. That the
reply gives the pages as a mask with page i at bit i is the model's reading (log 14). The records of a current page that stays current and
is not replaced are kept for their marks (R66, R100, log 17), and it has still been rendered (log 40). That the mode is checked before the
fields is the model's reading (log 15). -/
def Obligations.PageStored : Prop :=
  (∀ (cw ch : Nat) (r : RawLine) (l : LineDef), readLine cw ch r = some l ↔ LineReads cw ch r l)
    ∧ ∀ (v : Via) (index dwell language skip : Byte) (raws : List RawLine) (s : State) (a : Admitted) (c : Instr),
    c = .setPage v index dwell language skip raws → admission c s = some a →
    (s.board.mode = .unconfigured ∨ s.board.mode = .enumerating → exec c s = answered v c a (.refused .wrongMode) a.state)
    ∧ (s.board.mode ≠ .unconfigured → s.board.mode ≠ .enumerating →
      (BadPage s.board index language skip raws ∨ (∃ l ∈ raws, readLine s.board.width s.board.height l = none) →
        exec c s = answered v c a (.refused .badField) a.state)
      ∧ ∀ (i : Fin 4) (ls : List LineDef) (page : Option Page), ¬ BadPage s.board index language skip raws → index.toNat = i.val →
        List.Forall₂ (fun r l => readLine s.board.width s.board.height r = some l) raws ls →
        page = (if raws = [] then none else some { dwell := max 2 (min 60 dwell.toNat), language := language.toNat,
                                                   skip := decide (skip = 1#8), lines := ls }) →
        ∃ (ps : Pages) (t : State) (d : Nat) (mask : Byte),
          (∀ j, pageAt ps j = if j = i then page else pageAt s.board.pages j) ∧ t = { a.state with board := { s.board with pages := ps } }
          ∧ (∀ j p, choice t 0 = some j → pageAt ps j = some p → d = p.dwell) ∧ (choice t 0 = none → d = 0)
          ∧ (∀ j : Fin 4, mask.getLsbD j.val = (pageAt ps j).isSome) ∧ mask.toNat < 16
          ∧ exec c s = answered v c a (done [mask])
              { t with board := { t.board with
                current := choice t 0, dwell := d, lines := none, pending := false,
                kept := if choice t 0 = s.board.current ∧ s.board.current ≠ some i then s.board.lines.getD s.board.kept else [],
                rendered := s.board.rendered && decide (choice t 0 = s.board.current ∧ s.board.current ≠ some i) } })

/-! ### Overlays, phrases and fonts (spec/06, spec/07) -/

/-- R90 to R92 and R96: PUSH_OVERLAY and WITHDRAW_OVERLAY on a stack of at most four. -/
def Obligations.OverlaysPushedAndWithdrawn : Prop :=
  (∀ (v : Via) (x : RawOverlay) (s : State) (a : Admitted) (bad : Prop), admission (.pushOverlay v x) s = some a →
      (bad ↔ x.id = 0#8 ∨ 1 < x.scope.toNat ∨ x.phrase = 0#16 ∨ 1023 < x.phrase.toNat ∨ 1 < x.present.toNat) →
      (bad → exec (.pushOverlay v x) s = answered v (.pushOverlay v x) a (.refused .badField) a.state)
      ∧ ∀ (o : Overlay) (kept : List Overlay) (out : Option Overlay) (u : State), ¬ bad → s.overlays.records.length ≤ 4 →
        o = { id := x.id.toNat, scope := if x.scope = 0#8 then .band else .full, phrase := x.phrase.toNat,
              present := if x.present = 0#8 then .still else .scroll, speed := max 8 (min 64 x.speed.toNat),
              remaining := x.remaining.toNat } →
        kept = s.overlays.records.filter (fun q => q.id ≠ x.id.toNat) → out = kept[3]? →
        u = { a.state with
              overlays := { records := o :: kept.take 3, shownSince := 0 },
              notices := match out with | none => s.notices | some q => offerTo s.notices .overlayDisplaced q.id s.unit.uptime } →
        exec (.pushOverlay v x) s = answered v (.pushOverlay v x) a
          (done ([BitVec.ofNat 8 (1 + min 3 kept.length)] ++ flag1 (decide (∃ q ∈ s.overlays.records, q.id = x.id.toNat))
            ++ num1 ((out.map fun q => q.id).getD 0)))
          (if s.board.mode = .run then settle (requestRender u) else u))
    ∧ ∀ (v : Via) (id : Byte) (s : State) (a : Admitted), admission (.withdrawOverlay v id) s = some a →
      (id = 0#8 → exec (.withdrawOverlay v id) s = answered v (.withdrawOverlay v id) a (.refused .badField) a.state)
      ∧ (id ≠ 0#8 → (∀ q ∈ s.overlays.records, q.id ≠ id.toNat) →
        exec (.withdrawOverlay v id) s = answered v (.withdrawOverlay v id) a (.refused .notFound) a.state)
      ∧ (∀ (o : Overlay) (rest : List Overlay) (u : State), id ≠ 0#8 → s.overlays.records = o :: rest → o.id = id.toNat →
        (∀ q ∈ rest, q.id ≠ id.toNat) → u = { a.state with overlays := { records := rest, shownSince := 0 } } →
        exec (.withdrawOverlay v id) s = answered v (.withdrawOverlay v id) a (done [BitVec.ofNat 8 rest.length, 1#8])
          (if s.board.mode = .run then settle (requestRender u) else u))
      ∧ ∀ (top o : Overlay) (above below : List Overlay), id ≠ 0#8 → s.overlays.records = top :: above ++ o :: below → o.id = id.toNat →
        (∀ q ∈ top :: above ++ below, q.id ≠ id.toNat) →
        exec (.withdrawOverlay v id) s = answered v (.withdrawOverlay v id) a
          (done [BitVec.ofNat 8 (top :: above ++ below).length, 0#8])
          { a.state with overlays := { s.overlays with records := top :: above ++ below } }

/-- R103 and R104: SET_PHRASE and DROP_PHRASE, and that a dropped phrase is drawn as a missing one. The store is held in ascending id,
and `cells` is what its phrases take. -/
def Obligations.PhrasesSetAndDropped : Prop :=
  ∀ (cells : List Phrase → Nat), (∀ ps, cells ps = (ps.map fun p => p.v0.length + p.v1.length + p.v2.length).sum) →
  (∀ (v : Via) (id : BitVec 16) (x y z : List Byte) (s : State) (a : Admitted) (c : Instr) (others : List Phrase) (n o : Nat),
      c = .setPhrase v id x y z → admission c s = some a → s.phrases.Pairwise (fun p q => p.id < q.id) →
      others = s.phrases.filter (fun p => p.id ≠ id.toNat) → n = x.length + y.length + z.length →
      o = cells (s.phrases.filter fun p => p.id = id.toNat) →
      (id = 0#16 ∨ 1023 < id.toNat ∨ 64 < x.length ∨ 64 < y.length ∨ 64 < z.length ∨ n = 0 →
        exec c s = answered v c a (.refused .badField) a.state)
      ∧ (id ≠ 0#16 → id.toNat ≤ 1023 → x.length ≤ 64 → y.length ≤ 64 → z.length ≤ 64 → n ≠ 0 →
        (others = s.phrases → 256 ≤ s.phrases.length → exec c s = answered v c a (.refused .tableFull) a.state)
        ∧ (others ≠ s.phrases ∨ s.phrases.length < 256 →
          (12288 < cells s.phrases + n - o → exec c s = answered v c a (.refused .noSpace) a.state)
          ∧ (cells s.phrases + n - o ≤ 12288 → ∃ ps : List Phrase,
            ps.Perm ({ id := id.toNat, v0 := x, v1 := y, v2 := z } :: others) ∧ ps.Pairwise (fun p q => p.id < q.id)
            ∧ cells ps = cells s.phrases + n - o
            ∧ exec c s = answered v c a (done (num2 ps.length ++ num2 (cells ps))) { a.state with phrases := ps }))))
    ∧ ∀ (v : Via) (id : BitVec 16) (s : State) (a : Admitted) (ps : List Phrase), admission (.dropPhrase v id) s = some a →
      ps = s.phrases.filter (fun p => p.id ≠ id.toNat) →
      (id = 0#16 ∨ 1023 < id.toNat → exec (.dropPhrase v id) s = answered v (.dropPhrase v id) a (.refused .badField) a.state)
      ∧ (id ≠ 0#16 → id.toNat ≤ 1023 → ps = s.phrases →
        exec (.dropPhrase v id) s = answered v (.dropPhrase v id) a (.refused .notFound) a.state)
      ∧ (id ≠ 0#16 → id.toNat ≤ 1023 → ps ≠ s.phrases →
        exec (.dropPhrase v id) s = answered v (.dropPhrase v id) a (done (num2 ps.length ++ num2 (cells ps))) { a.state with phrases := ps }
        ∧ ∀ lang, phraseCodes ps lang id.toNat = [])

/-- R108 to R110: SET_GLYPHS and DROP_FONT. A code of the run has the glyph given, any other keeps its own, and a dropped font draws in
font 0. -/
def Obligations.GlyphsSetAndFontDropped : Prop :=
  (∀ (v : Via) (font height spacing first : Byte) (widths bits : List Byte) (s : State) (a : Admitted) (c : Instr) (need old : Nat)
      (badField : Prop),
      c = .setGlyphs v font height spacing first widths bits → admission c s = some a →
      need = (widths.map fun w => height.toNat * ((w.toNat + 7) / 8)).sum →
      old = ((((uploaded s.fonts font.toNat).map fun f => f.glyphs).getD []).filter fun g =>
        first.toNat ≤ g.code ∧ g.code < first.toNat + widths.length).foldr (fun g n => height.toNat * ((g.width + 7) / 8) + n) 0 →
      (badField ↔ font = 0#8 ∨ 3 < font.toNat ∨ height.toNat < 5 ∨ 24 < height.toNat ∨ 3 < spacing.toNat ∨ widths = []
        ∨ 32 < widths.length ∨ 255 < first.toNat + widths.length - 1 ∨ (∃ w ∈ widths, w = 0#8 ∨ 16 < w.toNat)
        ∨ ∃ f, uploaded s.fonts font.toNat = some f ∧ (f.height ≠ height.toNat ∨ f.spacing ≠ spacing.toNat)) →
      (badField → exec c s = answered v c a (.refused .badField) a.state)
      ∧ (¬ badField → bits.length ≠ need → exec c s = answered v c a (.refused .badLength) a.state)
      ∧ (¬ badField → bits.length = need → 24576 < bytesUsed s.fonts + need - old →
        exec c s = answered v c a (.refused .noSpace) a.state)
      ∧ (¬ badField → bits.length = need → bytesUsed s.fonts + need - old ≤ 24576 → ∃ (fs : Fonts) (f : Font),
        uploaded fs font.toNat = some f ∧ f.height = height.toNat ∧ f.spacing = spacing.toNat
        ∧ (∀ n, n ≠ font.toNat → uploaded fs n = uploaded s.fonts n)
        ∧ (∀ before w after, widths = before ++ w :: after → findGlyph (first.toNat + before.length) f = some
            { code := first.toNat + before.length, width := w.toNat,
              bitmap := (bits.drop (before.map fun w => height.toNat * ((w.toNat + 7) / 8)).sum).take
                (height.toNat * ((w.toNat + 7) / 8)) })
        ∧ (∀ code, code < first.toNat ∨ first.toNat + widths.length ≤ code →
            findGlyph code f = (uploaded s.fonts font.toNat).bind (findGlyph code))
        ∧ (FontsOk s.fonts → bytesUsed fs = bytesUsed s.fonts + need - old)
        ∧ exec c s = answered v c a
            (done (num2 f.glyphs.length ++ num2 (f.glyphs.map fun g => f.height * ((g.width + 7) / 8)).sum ++ num2 (bytesUsed fs)))
            { a.state with fonts := fs }))
    ∧ ∀ (v : Via) (font : Byte) (s : State) (a : Admitted), admission (.dropFont v font) s = some a →
      (font = 0#8 ∨ 3 < font.toNat → exec (.dropFont v font) s = answered v (.dropFont v font) a (.refused .badField) a.state)
      ∧ (font ≠ 0#8 → font.toNat ≤ 3 → uploaded s.fonts font.toNat = none →
        exec (.dropFont v font) s = answered v (.dropFont v font) a (.refused .notFound) a.state)
      ∧ ∀ f, font ≠ 0#8 → font.toNat ≤ 3 → uploaded s.fonts font.toNat = some f → ∃ fs : Fonts,
        (∀ n, uploaded fs n = if n = font.toNat then none else uploaded s.fonts n) ∧ resolveFont fs font.toNat = none
        ∧ bytesUsed fs + (f.glyphs.map fun g => f.height * ((g.width + 7) / 8)).sum = bytesUsed s.fonts
        ∧ exec (.dropFont v font) s = answered v (.dropFont v font) a (done (num2 (bytesUsed fs))) { a.state with fonts := fs }

/-! ### Colours and brightness (spec/08 section 8.6, spec/10) -/

/-- R126, R150, R151 and R152: SET_PALETTE, SET_BRIGHTNESS and SET_LIGHT_CURVE. A palette entry outside the run given keeps its
colour. -/
def Obligations.ColoursAndBrightnessSet : Prop :=
  (∀ (v : Via) (first : Byte) (es : List RGB) (s : State) (a : Admitted), admission (.setPalette v first es) s = some a →
      (15 < first.toNat ∨ es = [] ∨ 16 < first.toNat + es.length →
        exec (.setPalette v first es) s = answered v (.setPalette v first es) a (.refused .badField) a.state)
      ∧ ∀ pal : List RGB, es ≠ [] → first.toNat + es.length ≤ 16 → s.coder.palette.length = 16 → pal.length = 16 →
        (∀ i, i < 16 → pal[i]? = if first.toNat ≤ i ∧ i < first.toNat + es.length then es[i - first.toNat]? else s.coder.palette[i]?) →
        exec (.setPalette v first es) s = answered v (.setPalette v first es) a (done []) (settle { a.state with
          coder := { s.coder with palette := pal,
                                  palDirty := Per8.tabulate fun p => s.coder.palDirty.get p || (s.board.places.get p).isSome } }))
    ∧ (∀ (v : Via) (x : RawBrightness) (s : State) (a : Admitted), admission (.setBrightness v x) s = some a →
      (1 < x.mode.toNat → exec (.setBrightness v x) s = answered v (.setBrightness v x) a (.refused .badField) a.state)
      ∧ ∀ (m : BrightMode) (l : Light), x.mode = brightModeByte m →
        l = { s.light with
              mode := m, fixed := x.fixed.toNat, hyst := min 32 x.hyst.toNat, slew := max 1 x.slew.toNat,
              bmin := min x.bmin.toNat x.bmax.toNat, bmax := x.bmax.toNat,
              applied := max (min x.bmin.toNat x.bmax.toNat) (min x.bmax.toNat
                (match m with | .fixed => x.fixed.toNat | .auto => s.light.applied)) } →
        exec (.setBrightness v x) s = answered v (.setBrightness v x) a
          (done [x.mode, x.fixed, BitVec.ofNat 8 l.hyst, BitVec.ofNat 8 l.slew, BitVec.ofNat 8 l.bmin, x.bmax, BitVec.ofNat 8 l.applied])
          (if l.applied = s.light.applied then { a.state with light := l } else settle (markPalettes { a.state with light := l })))
    ∧ ∀ (v : Via) (x : RawCurve) (s : State) (a : Admitted) (raws : List RawPoint), admission (.setLightCurve v x) s = some a →
      raws = [x.q0, x.q1, x.q2, x.q3, x.q4, x.q5] →
      (raws.Pairwise (fun p q => p.c.toNat < q.c.toNat) → exec (.setLightCurve v x) s =
        answered v (.setLightCurve v x) a (done [])
          { a.state with light := { s.light with curve := raws.map fun p => { c := p.c.toNat, b := p.b.toNat } } })
      ∧ (¬ raws.Pairwise (fun p q => p.c.toNat < q.c.toNat) →
        exec (.setLightCurve v x) s = answered v (.setLightCurve v x) a (.refused .badField) a.state)

/-- R127: the drive level, which rounds the exact quotient to the nearest whole number, halves upward, and is capped at 255. -/
def Obligations.DriveLevel : Prop :=
  ∀ c b g : Nat, driveLevel c b g = min 255 ((c * b * g + 16320) / 32640)
    ∧ driveLevel c b g ≤ 255 ∧ (c ≤ 255 → driveLevel c 255 128 = c)
    ∧ (driveLevel c b g < 255 → 2 * (c * b * g) < (2 * driveLevel c b g + 1) * 32640
        ∧ 2 * driveLevel c b g * 32640 ≤ 2 * (c * b * g) + 32640)

/-! ### Frames and the panel chain (spec/08, spec/09) -/

/-- R116 to R119, R127 and R128: when a frame starts, and what its start does. A frame with no stripes completes its coding at once. When
it is tested, at the end of each event and within a tick after a block's part of it, is the model's reading (log 19). -/
def Obligations.FrameStarts : Prop :=
  ∀ (s : State) (takes : Pos → Bool),
    (∀ p, takes p = true ↔ (s.board.places.get p).isSome = true
      ∧ ((s.chain.recs.get p).state = .active ∨ (s.chain.recs.get p).state = .failing)
      ∧ (s.coder.dirty.get p = true ∨ s.coder.palDirty.get p = true)) →
    (s.coder.state ≠ .idle ∨ (∀ p, takes p = false) → settle s = s)
    ∧ ∀ (es : List Entry) (u : State), s.coder.state = .idle → (∃ p, takes p = true) →
      es.map (fun e => e.pos) = Pos.all.filter takes →
      (∀ e ∈ es, s.board.places.get e.pos = some e.geom ∧ e.striped = s.coder.dirty.get e.pos
        ∧ e.drive = if s.coder.palDirty.get e.pos = true then
            some (s.coder.palette.map fun c => if s.board.mode = .blank then ⟨0#8, 0#8, 0#8⟩ else
              ⟨BitVec.ofNat 8 (driveLevel c.r.toNat s.light.applied e.geom.gainR),
                BitVec.ofNat 8 (driveLevel c.g.toNat s.light.applied e.geom.gainG),
                BitVec.ofNat 8 (driveLevel c.b.toNat s.light.applied e.geom.gainB)⟩)
          else none) →
      u = { s with coder := { s.coder with
            state := .coding, number := (s.coder.number + 1) % 256,
            dirty := Per8.tabulate fun p => s.coder.dirty.get p && !takes p,
            palDirty := Per8.tabulate fun p => s.coder.palDirty.get p && !takes p,
            record := some { number := (s.coder.number + 1) % 256, entries := es } } } →
      ((∃ e ∈ es, e.striped = true) → settle s = u) ∧ ((∀ e ∈ es, e.striped = false) → exec .codingComplete u = .next (settle s))

/-- R119, R120, R122, R123, R130, R136 and R138: CODING_COMPLETE, DELIVERY_START and DELIVERY_END, and the sending of a frame's packets in
order, SHOW last. The row at order position q of a panel of height H and scan ratio k is row q div (H/k) + k × (q mod (H/k)) of its
region, and stripe n holds order positions 8n to 8n + 7, each row coded by `codeRow` (`StripeReachesPanel`). That the stripes are coded
from the canvas as it stands at completion is the model's reading (log 31). The model's choices (log 20): waiting work takes the chain in
a row of its own, so that with a round due a coded frame waits for DELIVERY_START although the chain is IDLE, and the end of a delivery is
the row DELIVERY_END, which leaves the chain IDLE also with a round due. A pending render whose records are not built stays pending (log
18). -/
def Obligations.FrameDelivered : Prop :=
  (∀ (s u w : State) (r : FrameRecord), s.coder.state = .coding → s.coder.record = some r →
      u = { s with coder := { s.coder with
            state := .delivering,
            stripes := (r.entries.filter fun e => e.striped).flatMap fun e => (List.range (e.geom.height / 8)).map fun n =>
              { pos := e.pos, number := n,
                rows := (List.range 8).map fun j => codeRow (((s.board.canvas.getD (e.geom.y +
                  ((8 * n + j) / (e.geom.height / e.geom.scan) + e.geom.scan * ((8 * n + j) % (e.geom.height / e.geom.scan)))) []).drop
                  e.geom.x).take e.geom.width) } } } →
      w = (if s.board.pending = true then requestRender u else u) →
      (s.chain.work = .idle → s.chain.roundDue = false → exec .codingComplete s = exec .deliveryStart w
        ∧ ∃ t, exec .codingComplete s = .next t ∧ t.coder.state = .delivering ∧ t.chain.work ≠ .idle)
      ∧ (s.chain.work ≠ .idle ∨ s.chain.roundDue = true → exec .codingComplete s = .next w))
    ∧ (∀ (s : State) (r : FrameRecord) (items : List Item), s.coder.state = .delivering → s.coder.record = some r →
      s.chain.work = .idle → s.chain.roundDue = false →
      items = (r.entries.filter fun e => e.drive.isSome).map (fun e => .palette e.pos)
        ++ (r.entries.filter fun e => e.striped).flatMap (fun e => (List.range (e.geom.height / 8)).map fun n => .stripe e.pos n) →
      exec .deliveryStart s = .next (sendNext items (Per8.all false) s))
    ∧ (∀ (s : State) (r : FrameRecord) (it : Item) (rest : List Item) (givenUp : PosSet), s.coder.record = some r →
      sendNext (it :: rest) givenUp s = { s with chain := { s.chain with
          work := .delivering (some { item := it, sent := 1 }) rest givenUp, out := some (itemPacket s it) } }
      ∧ sendNext [] givenUp s = { s with chain := { s.chain with
          work := .delivering none [] givenUp,
          out := some (.show_ (BitVec.ofNat 8 s.coder.number)
            (Per8.tabulate fun p => decide (∃ e ∈ r.entries, e.pos = p) && !givenUp.get p)) } }
      ∧ (∀ p e d, it = .palette p → r.entries.find? (fun e => e.pos == p) = some e → e.drive = some d →
          itemPacket s it = .palette (BitVec.ofNat 8 s.coder.number) p d)
      ∧ ∀ p n x, it = .stripe p n → s.coder.stripes.find? (fun x => x.pos == p && x.number == n) = some x →
          itemPacket s it = .stripe (BitVec.ofNat 8 s.coder.number) p (BitVec.ofNat 8 n) x.rows)
    ∧ ∀ (s : State) (rest : List Item) (givenUp : PosSet), s.chain.work = .delivering none rest givenUp →
      exec .deliveryEnd s = .next (settle { s with
        chain := { s.chain with work := .idle }, coder := { s.coder with state := .idle, record := none, stripes := [] } })

/-- R134 to R137: the answers to a packet of a frame. An answer counts only as the bytes of an ACK or a NAK from the addressed position. A
failed answer is retried until the packet has been sent 1 + RETRY_LIMIT times, and then gives the panel up. The answer window closes with
the command ANSWER_TIMEOUT: the model's choice (log 11). -/
def Obligations.FrameAnswers : Prop :=
  ∀ (s : State) (it : Item) (n : Nat) (rest : List Item) (givenUp : PosSet) (p : Pos) (r : PanelRecord) (raw : List Byte),
    s.chain.work = .delivering (some { item := it, sent := n }) rest givenUp → p = itemPos it → r = s.chain.recs.get p →
    (raw ≠ packetBytes (.ack p) → exec (.answerAck raw) s = .next s) ∧ (raw ≠ packetBytes (.nak p) → exec (.answerNak raw) s = .next s)
    ∧ ((∃ x ∈ rest, itemPos x = p) → exec (.answerAck (packetBytes (.ack p))) s = .next (settle (sendNext rest givenUp s)))
    ∧ ((∀ x ∈ rest, itemPos x ≠ p) → exec (.answerAck (packetBytes (.ack p))) s = .next (settle (sendNext rest givenUp
        { s with chain := { s.chain with recs := s.chain.recs.set p { r with state := .active, fails := 0 } } })))
    ∧ ∀ (c : Instr) (k : PanelRecord),
      (c = .answerNak (packetBytes (.nak p)) ∧ k = { r with naks := min 255 (r.naks + 1) })
        ∨ (c = .answerTimeout ∧ k = { r with timeouts := min 255 (r.timeouts + 1) }) →
      (n ≤ s.chain.retryLimit → exec c s = .next (settle { s with chain := { s.chain with
          recs := s.chain.recs.set p k, work := .delivering (some { item := it, sent := n + 1 }) rest givenUp,
          out := some (itemPacket s it) } }))
      ∧ ∀ (f : Nat) (u : State), s.chain.retryLimit < n → f = min 15 (r.fails + 1) →
        u = { s with
              chain := { s.chain with
                recs := s.chain.recs.set p { k with fails := f, state := if s.chain.faultAfter ≤ f then .faulted else .failing } },
              coder := if (s.board.places.get p).isSome = true then
                  { s.coder with dirty := s.coder.dirty.set p true, palDirty := s.coder.palDirty.set p true }
                else s.coder,
              notices := if s.chain.faultAfter ≤ f then offerTo s.notices .panelFaulted (p.val + 1) s.unit.uptime else s.notices } →
        exec c s = .next (settle (sendNext (rest.filter fun x => itemPos x ≠ p) (givenUp.set p true) u))

/-- R134, R140, R130 and R179: the answers to a PROBE. An answer counts only as the bytes of an ACK or a NAK from the probed position. The
last one ends the round. A round that a SET_BOARD has ended counts no answer and no timeout (log 32). That the end of the round, or of an
ended round's window, leaves the chain IDLE, and a frame or an enumeration that waits takes it in a row of its own, is the model's choice
(log 20), and so is that the answer window closes with the command (log 11). -/
def Obligations.ProbeAnswers : Prop :=
  ∀ (s : State) (p : Pos) (rest : List Pos) (r : PanelRecord) (raw : List Byte) (ended : Bool), r = s.chain.recs.get p →
    (s.chain.work = .probing p rest true → exec .answerTimeout s = .next { s with chain := { s.chain with work := .idle } })
    ∧ (s.chain.work = .probing p rest ended →
      (ended = true ∨ raw ≠ packetBytes (.ack p) → exec (.answerAck raw) s = .next s)
      ∧ (ended = true ∨ raw ≠ packetBytes (.nak p) → exec (.answerNak raw) s = .next s))
    ∧ ∀ (w : ChainWork) (o : Option Packet), s.chain.work = .probing p rest false →
      (rest = [] ∧ w = .idle ∧ o = s.chain.out) ∨ (∃ q qs, rest = q :: qs ∧ w = .probing q qs false ∧ o = some (.probe q)) →
      exec (.answerAck (packetBytes (.ack p))) s = .next (settle { s with
          chain := { s.chain with recs := s.chain.recs.set p { r with state := .active, fails := 0 }, work := w, out := o },
          coder := if (s.board.places.get p).isSome = true then
              { s.coder with dirty := s.coder.dirty.set p true, palDirty := s.coder.palDirty.set p true }
            else s.coder,
          notices := offerTo s.notices .panelRecovered (p.val + 1) s.unit.uptime })
      ∧ exec (.answerNak (packetBytes (.nak p))) s = .next (settle { s with chain := { s.chain with
          recs := s.chain.recs.set p { r with naks := min 255 (r.naks + 1) }, work := w, out := o } })
      ∧ exec .answerTimeout s = .next (settle { s with chain := { s.chain with
          recs := s.chain.recs.set p { r with timeouts := min 255 (r.timeouts + 1) }, work := w, out := o } })

/-! ### Coding and decoding agree -/

/-- R124, R125, R134 and R179: every row of width 64 or 128 is coded in the RUN form when its units are at most W/2 − 1 and in the
LITERAL form otherwise, in at most 1 + W/2 bytes, and decodes to itself; and a panel takes a STRIPE of eight such rows, holds them as
pending rows and answers ACK. That the panel passes the packet on is the model's choice (log 47). -/
def Obligations.StripeReachesPanel : Prop :=
  (∀ (row : List Pixel) (rest : List Byte), row.length = 64 ∨ row.length = 128 →
      (∃ units, UnitsOf row units ∧ codeRow row =
        if units.length ≤ row.length / 2 - 1 then
          [0x00#8, BitVec.ofNat 8 units.length] ++ units.map (fun u => u.1 ++ BitVec.ofNat 4 (u.2 - 1))
        else 0x01#8 :: (List.range (row.length / 2)).map (fun i => row.getD (2 * i) 0#4 ++ row.getD (2 * i + 1) 0#4))
      ∧ (codeRow row).length ≤ 1 + row.length / 2 ∧ decodeRow row.length (codeRow row ++ rest) = some (row, rest))
    ∧ ∀ (f n : Byte) (p : Pos) (rows : List (List Pixel)) (x : Panel), rows.length = 8 → x.width = 64 ∨ x.width = 128 →
      (∀ row ∈ rows, row.length = x.width) → x.position = some (posByte p) → n.toNat < x.height / 8 →
      panelStep (packetBytes (.stripe f p n (rows.map codeRow))) x =
        { panel := { x with pending := some (f, (n.toNat, rows) :: (pendingOf f x).filter fun e => e.1 != n.toNat) },
          onward := packetBytes (.stripe f p n (rows.map codeRow)), answer := some (packetBytes (.ack p)) }

/-- R169 and R178: the fields of every request that a sender can send are read back from its payload as they were written. Formats gives
no field order for SET_GROUPS, BATCH_OPEN, SET_BATCH_WINDOWS, SET_CHAIN_RULES, SET_BRIGHTNESS and SET_COUNTDOWN: the order in which both
functions put their fields is the model's choice (log 36). -/
def Obligations.RequestRoundTrip : Prop :=
  ∀ (c : Instr) (v : Via), requestVia c = some v → c.wf = true →
    decodeRequest v (requestKind c) (requestPayload c) = .request c ∧ (requestPayload c).length ≤ 240

/-! ### The invariant that every step keeps -/

/-- The live table stays in its order within its limit, the stage within its own, and the supervisor and the clock within theirs. -/
def Obligations.StepKeepsTimetable : Prop :=
  ∀ s t : State, Inv s → step s = .next t → TableOk t.table ∧ BatchOk t.batch ∧ SupervisorOk t.sup ∧ ClockOk t.clock

/-- The permission held is the one that stands, and every record displays by it: MINUTES form only while predictions are allowed. The
canvas has the board's size, the placed regions lie apart within it, the current page is a defined one, and the line records are those of
its lines. `kept` and `rendered` are the model's own (logs 17 and 40). -/
def Obligations.StepKeepsDisplay : Prop :=
  ∀ s t : State, Inv s → step s = .next t → PermissionOk t ∧ LayoutOk t.board

/-- The overlay stack, the two stores, the light meter, the notice queue and the signline stay within their limits; at most seven replies
wait, in the order of the frames they answer. The bound on the replies and the numbers that order them are kept by the model (logs 11 and
10). -/
def Obligations.StepKeepsStores : Prop :=
  ∀ s t : State, Inv s → step s = .next t →
    OverlaysOk t.overlays ∧ PhrasesOk t.phrases ∧ FontsOk t.fonts ∧ LightOk t.light ∧ NoticesOk t.notices ∧ LineOk t.line

/-- The frame state, the frame record, the stripe store and the chain fit one another, an IDLE frame state leaves no eligible panel
marked, and no packet of a frame goes to a position that is ABSENT or FAULTED. -/
def Obligations.StepKeepsDelivery : Prop :=
  ∀ s t : State, Inv s → step s = .next t → DeliveryOk t
end

