-- ==== Sys2Proof/Laws/State.lean ====
section
/-! SUPPORT. What each plain update of the state leaves as it was and what it sets: one lemma per field, true by `rfl`. -/

namespace Sys2Proof.Machine

open Sys2Proof

/-! ### offer -/

@[simp] theorem offer_notices (k : NoticeKind) (arg : Nat) (s : State) : (offer k arg s).notices = offerTo s.notices k arg s.unit.uptime := rfl
@[simp] theorem offer_table (k : NoticeKind) (arg : Nat) (s : State) : (offer k arg s).table = s.table := rfl
@[simp] theorem offer_batch (k : NoticeKind) (arg : Nat) (s : State) : (offer k arg s).batch = s.batch := rfl
@[simp] theorem offer_sup (k : NoticeKind) (arg : Nat) (s : State) : (offer k arg s).sup = s.sup := rfl
@[simp] theorem offer_clock (k : NoticeKind) (arg : Nat) (s : State) : (offer k arg s).clock = s.clock := rfl
@[simp] theorem offer_board (k : NoticeKind) (arg : Nat) (s : State) : (offer k arg s).board = s.board := rfl
@[simp] theorem offer_overlays (k : NoticeKind) (arg : Nat) (s : State) : (offer k arg s).overlays = s.overlays := rfl
@[simp] theorem offer_phrases (k : NoticeKind) (arg : Nat) (s : State) : (offer k arg s).phrases = s.phrases := rfl
@[simp] theorem offer_fonts (k : NoticeKind) (arg : Nat) (s : State) : (offer k arg s).fonts = s.fonts := rfl
@[simp] theorem offer_coder (k : NoticeKind) (arg : Nat) (s : State) : (offer k arg s).coder = s.coder := rfl
@[simp] theorem offer_chain (k : NoticeKind) (arg : Nat) (s : State) : (offer k arg s).chain = s.chain := rfl
@[simp] theorem offer_light (k : NoticeKind) (arg : Nat) (s : State) : (offer k arg s).light = s.light := rfl
@[simp] theorem offer_line (k : NoticeKind) (arg : Nat) (s : State) : (offer k arg s).line = s.line := rfl
@[simp] theorem offer_handler (k : NoticeKind) (arg : Nat) (s : State) : (offer k arg s).handler = s.handler := rfl
@[simp] theorem offer_unit (k : NoticeKind) (arg : Nat) (s : State) : (offer k arg s).unit = s.unit := rfl
@[simp] theorem offer_tickTaken (k : NoticeKind) (arg : Nat) (s : State) : (offer k arg s).tickTaken = s.tickTaken := rfl
@[simp] theorem offer_subTaken (k : NoticeKind) (arg : Nat) (s : State) : (offer k arg s).subTaken = s.subTaken := rfl
@[simp] theorem offer_pending (k : NoticeKind) (arg : Nat) (s : State) : (offer k arg s).pending = s.pending := rfl

/-! ### evaluate -/

@[simp] theorem evaluate_table (tick : Bool) (s : State) : (evaluate tick s).table = { s.table with records := s.table.records.map (evalRecord (evalContext tick s)) } := rfl
@[simp] theorem evaluate_batch (tick : Bool) (s : State) : (evaluate tick s).batch = s.batch := rfl
@[simp] theorem evaluate_sup (tick : Bool) (s : State) : (evaluate tick s).sup = s.sup := rfl
@[simp] theorem evaluate_clock (tick : Bool) (s : State) : (evaluate tick s).clock = s.clock := rfl
@[simp] theorem evaluate_board (tick : Bool) (s : State) : (evaluate tick s).board = s.board := rfl
@[simp] theorem evaluate_overlays (tick : Bool) (s : State) : (evaluate tick s).overlays = s.overlays := rfl
@[simp] theorem evaluate_phrases (tick : Bool) (s : State) : (evaluate tick s).phrases = s.phrases := rfl
@[simp] theorem evaluate_fonts (tick : Bool) (s : State) : (evaluate tick s).fonts = s.fonts := rfl
@[simp] theorem evaluate_coder (tick : Bool) (s : State) : (evaluate tick s).coder = s.coder := rfl
@[simp] theorem evaluate_chain (tick : Bool) (s : State) : (evaluate tick s).chain = s.chain := rfl
@[simp] theorem evaluate_light (tick : Bool) (s : State) : (evaluate tick s).light = s.light := rfl
@[simp] theorem evaluate_line (tick : Bool) (s : State) : (evaluate tick s).line = s.line := rfl
@[simp] theorem evaluate_handler (tick : Bool) (s : State) : (evaluate tick s).handler = s.handler := rfl
@[simp] theorem evaluate_unit (tick : Bool) (s : State) : (evaluate tick s).unit = s.unit := rfl
@[simp] theorem evaluate_notices (tick : Bool) (s : State) : (evaluate tick s).notices = s.notices := rfl
@[simp] theorem evaluate_tickTaken (tick : Bool) (s : State) : (evaluate tick s).tickTaken = s.tickTaken := rfl
@[simp] theorem evaluate_subTaken (tick : Bool) (s : State) : (evaluate tick s).subTaken = s.subTaken := rfl
@[simp] theorem evaluate_pending (tick : Bool) (s : State) : (evaluate tick s).pending = s.pending := rfl

/-! ### clearTable -/

@[simp] theorem clearTable_table (s : State) : (clearTable s).table = { s.table with records := [] } := rfl
@[simp] theorem clearTable_batch (s : State) : (clearTable s).batch = s.batch := rfl
@[simp] theorem clearTable_sup (s : State) : (clearTable s).sup = s.sup := rfl
@[simp] theorem clearTable_clock (s : State) : (clearTable s).clock = s.clock := rfl
@[simp] theorem clearTable_board (s : State) : (clearTable s).board = s.board := rfl
@[simp] theorem clearTable_overlays (s : State) : (clearTable s).overlays = s.overlays := rfl
@[simp] theorem clearTable_phrases (s : State) : (clearTable s).phrases = s.phrases := rfl
@[simp] theorem clearTable_fonts (s : State) : (clearTable s).fonts = s.fonts := rfl
@[simp] theorem clearTable_coder (s : State) : (clearTable s).coder = s.coder := rfl
@[simp] theorem clearTable_chain (s : State) : (clearTable s).chain = s.chain := rfl
@[simp] theorem clearTable_light (s : State) : (clearTable s).light = s.light := rfl
@[simp] theorem clearTable_line (s : State) : (clearTable s).line = s.line := rfl
@[simp] theorem clearTable_handler (s : State) : (clearTable s).handler = s.handler := rfl
@[simp] theorem clearTable_unit (s : State) : (clearTable s).unit = s.unit := rfl
@[simp] theorem clearTable_notices (s : State) : (clearTable s).notices = s.notices := rfl
@[simp] theorem clearTable_tickTaken (s : State) : (clearTable s).tickTaken = s.tickTaken := rfl
@[simp] theorem clearTable_subTaken (s : State) : (clearTable s).subTaken = s.subTaken := rfl
@[simp] theorem clearTable_pending (s : State) : (clearTable s).pending = s.pending := rfl

/-! ### setStage -/

@[simp] theorem setStage_batch (b : Option Batch) (s : State) : (setStage b s).batch = { s.batch with stage := b } := rfl
@[simp] theorem setStage_table (b : Option Batch) (s : State) : (setStage b s).table = s.table := rfl
@[simp] theorem setStage_sup (b : Option Batch) (s : State) : (setStage b s).sup = s.sup := rfl
@[simp] theorem setStage_clock (b : Option Batch) (s : State) : (setStage b s).clock = s.clock := rfl
@[simp] theorem setStage_board (b : Option Batch) (s : State) : (setStage b s).board = s.board := rfl
@[simp] theorem setStage_overlays (b : Option Batch) (s : State) : (setStage b s).overlays = s.overlays := rfl
@[simp] theorem setStage_phrases (b : Option Batch) (s : State) : (setStage b s).phrases = s.phrases := rfl
@[simp] theorem setStage_fonts (b : Option Batch) (s : State) : (setStage b s).fonts = s.fonts := rfl
@[simp] theorem setStage_coder (b : Option Batch) (s : State) : (setStage b s).coder = s.coder := rfl
@[simp] theorem setStage_chain (b : Option Batch) (s : State) : (setStage b s).chain = s.chain := rfl
@[simp] theorem setStage_light (b : Option Batch) (s : State) : (setStage b s).light = s.light := rfl
@[simp] theorem setStage_line (b : Option Batch) (s : State) : (setStage b s).line = s.line := rfl
@[simp] theorem setStage_handler (b : Option Batch) (s : State) : (setStage b s).handler = s.handler := rfl
@[simp] theorem setStage_unit (b : Option Batch) (s : State) : (setStage b s).unit = s.unit := rfl
@[simp] theorem setStage_notices (b : Option Batch) (s : State) : (setStage b s).notices = s.notices := rfl
@[simp] theorem setStage_tickTaken (b : Option Batch) (s : State) : (setStage b s).tickTaken = s.tickTaken := rfl
@[simp] theorem setStage_subTaken (b : Option Batch) (s : State) : (setStage b s).subTaken = s.subTaken := rfl
@[simp] theorem setStage_pending (b : Option Batch) (s : State) : (setStage b s).pending = s.pending := rfl

/-! ### setClock -/

@[simp] theorem setClock_clock (c : Clock) (s : State) : (setClock c s).clock = c := rfl
@[simp] theorem setClock_table (c : Clock) (s : State) : (setClock c s).table = s.table := rfl
@[simp] theorem setClock_batch (c : Clock) (s : State) : (setClock c s).batch = s.batch := rfl
@[simp] theorem setClock_sup (c : Clock) (s : State) : (setClock c s).sup = s.sup := rfl
@[simp] theorem setClock_board (c : Clock) (s : State) : (setClock c s).board = s.board := rfl
@[simp] theorem setClock_overlays (c : Clock) (s : State) : (setClock c s).overlays = s.overlays := rfl
@[simp] theorem setClock_phrases (c : Clock) (s : State) : (setClock c s).phrases = s.phrases := rfl
@[simp] theorem setClock_fonts (c : Clock) (s : State) : (setClock c s).fonts = s.fonts := rfl
@[simp] theorem setClock_coder (c : Clock) (s : State) : (setClock c s).coder = s.coder := rfl
@[simp] theorem setClock_chain (c : Clock) (s : State) : (setClock c s).chain = s.chain := rfl
@[simp] theorem setClock_light (c : Clock) (s : State) : (setClock c s).light = s.light := rfl
@[simp] theorem setClock_line (c : Clock) (s : State) : (setClock c s).line = s.line := rfl
@[simp] theorem setClock_handler (c : Clock) (s : State) : (setClock c s).handler = s.handler := rfl
@[simp] theorem setClock_unit (c : Clock) (s : State) : (setClock c s).unit = s.unit := rfl
@[simp] theorem setClock_notices (c : Clock) (s : State) : (setClock c s).notices = s.notices := rfl
@[simp] theorem setClock_tickTaken (c : Clock) (s : State) : (setClock c s).tickTaken = s.tickTaken := rfl
@[simp] theorem setClock_subTaken (c : Clock) (s : State) : (setClock c s).subTaken = s.subTaken := rfl
@[simp] theorem setClock_pending (c : Clock) (s : State) : (setClock c s).pending = s.pending := rfl

/-! ### setOverlays -/

@[simp] theorem setOverlays_overlays (o : Overlays) (s : State) : (setOverlays o s).overlays = o := rfl
@[simp] theorem setOverlays_table (o : Overlays) (s : State) : (setOverlays o s).table = s.table := rfl
@[simp] theorem setOverlays_batch (o : Overlays) (s : State) : (setOverlays o s).batch = s.batch := rfl
@[simp] theorem setOverlays_sup (o : Overlays) (s : State) : (setOverlays o s).sup = s.sup := rfl
@[simp] theorem setOverlays_clock (o : Overlays) (s : State) : (setOverlays o s).clock = s.clock := rfl
@[simp] theorem setOverlays_board (o : Overlays) (s : State) : (setOverlays o s).board = s.board := rfl
@[simp] theorem setOverlays_phrases (o : Overlays) (s : State) : (setOverlays o s).phrases = s.phrases := rfl
@[simp] theorem setOverlays_fonts (o : Overlays) (s : State) : (setOverlays o s).fonts = s.fonts := rfl
@[simp] theorem setOverlays_coder (o : Overlays) (s : State) : (setOverlays o s).coder = s.coder := rfl
@[simp] theorem setOverlays_chain (o : Overlays) (s : State) : (setOverlays o s).chain = s.chain := rfl
@[simp] theorem setOverlays_light (o : Overlays) (s : State) : (setOverlays o s).light = s.light := rfl
@[simp] theorem setOverlays_line (o : Overlays) (s : State) : (setOverlays o s).line = s.line := rfl
@[simp] theorem setOverlays_handler (o : Overlays) (s : State) : (setOverlays o s).handler = s.handler := rfl
@[simp] theorem setOverlays_unit (o : Overlays) (s : State) : (setOverlays o s).unit = s.unit := rfl
@[simp] theorem setOverlays_notices (o : Overlays) (s : State) : (setOverlays o s).notices = s.notices := rfl
@[simp] theorem setOverlays_tickTaken (o : Overlays) (s : State) : (setOverlays o s).tickTaken = s.tickTaken := rfl
@[simp] theorem setOverlays_subTaken (o : Overlays) (s : State) : (setOverlays o s).subTaken = s.subTaken := rfl
@[simp] theorem setOverlays_pending (o : Overlays) (s : State) : (setOverlays o s).pending = s.pending := rfl

/-! ### setLight -/

@[simp] theorem setLight_light (l : Light) (s : State) : (setLight l s).light = l := rfl
@[simp] theorem setLight_table (l : Light) (s : State) : (setLight l s).table = s.table := rfl
@[simp] theorem setLight_batch (l : Light) (s : State) : (setLight l s).batch = s.batch := rfl
@[simp] theorem setLight_sup (l : Light) (s : State) : (setLight l s).sup = s.sup := rfl
@[simp] theorem setLight_clock (l : Light) (s : State) : (setLight l s).clock = s.clock := rfl
@[simp] theorem setLight_board (l : Light) (s : State) : (setLight l s).board = s.board := rfl
@[simp] theorem setLight_overlays (l : Light) (s : State) : (setLight l s).overlays = s.overlays := rfl
@[simp] theorem setLight_phrases (l : Light) (s : State) : (setLight l s).phrases = s.phrases := rfl
@[simp] theorem setLight_fonts (l : Light) (s : State) : (setLight l s).fonts = s.fonts := rfl
@[simp] theorem setLight_coder (l : Light) (s : State) : (setLight l s).coder = s.coder := rfl
@[simp] theorem setLight_chain (l : Light) (s : State) : (setLight l s).chain = s.chain := rfl
@[simp] theorem setLight_line (l : Light) (s : State) : (setLight l s).line = s.line := rfl
@[simp] theorem setLight_handler (l : Light) (s : State) : (setLight l s).handler = s.handler := rfl
@[simp] theorem setLight_unit (l : Light) (s : State) : (setLight l s).unit = s.unit := rfl
@[simp] theorem setLight_notices (l : Light) (s : State) : (setLight l s).notices = s.notices := rfl
@[simp] theorem setLight_tickTaken (l : Light) (s : State) : (setLight l s).tickTaken = s.tickTaken := rfl
@[simp] theorem setLight_subTaken (l : Light) (s : State) : (setLight l s).subTaken = s.subTaken := rfl
@[simp] theorem setLight_pending (l : Light) (s : State) : (setLight l s).pending = s.pending := rfl

/-! ### setLine -/

@[simp] theorem setLine_line (l : Line) (s : State) : (setLine l s).line = l := rfl
@[simp] theorem setLine_table (l : Line) (s : State) : (setLine l s).table = s.table := rfl
@[simp] theorem setLine_batch (l : Line) (s : State) : (setLine l s).batch = s.batch := rfl
@[simp] theorem setLine_sup (l : Line) (s : State) : (setLine l s).sup = s.sup := rfl
@[simp] theorem setLine_clock (l : Line) (s : State) : (setLine l s).clock = s.clock := rfl
@[simp] theorem setLine_board (l : Line) (s : State) : (setLine l s).board = s.board := rfl
@[simp] theorem setLine_overlays (l : Line) (s : State) : (setLine l s).overlays = s.overlays := rfl
@[simp] theorem setLine_phrases (l : Line) (s : State) : (setLine l s).phrases = s.phrases := rfl
@[simp] theorem setLine_fonts (l : Line) (s : State) : (setLine l s).fonts = s.fonts := rfl
@[simp] theorem setLine_coder (l : Line) (s : State) : (setLine l s).coder = s.coder := rfl
@[simp] theorem setLine_chain (l : Line) (s : State) : (setLine l s).chain = s.chain := rfl
@[simp] theorem setLine_light (l : Line) (s : State) : (setLine l s).light = s.light := rfl
@[simp] theorem setLine_handler (l : Line) (s : State) : (setLine l s).handler = s.handler := rfl
@[simp] theorem setLine_unit (l : Line) (s : State) : (setLine l s).unit = s.unit := rfl
@[simp] theorem setLine_notices (l : Line) (s : State) : (setLine l s).notices = s.notices := rfl
@[simp] theorem setLine_tickTaken (l : Line) (s : State) : (setLine l s).tickTaken = s.tickTaken := rfl
@[simp] theorem setLine_subTaken (l : Line) (s : State) : (setLine l s).subTaken = s.subTaken := rfl
@[simp] theorem setLine_pending (l : Line) (s : State) : (setLine l s).pending = s.pending := rfl

/-! ### setReceiver -/

@[simp] theorem setReceiver_line (r : Receiver) (s : State) : (setReceiver r s).line = { s.line with rx := r } := rfl
@[simp] theorem setReceiver_table (r : Receiver) (s : State) : (setReceiver r s).table = s.table := rfl
@[simp] theorem setReceiver_batch (r : Receiver) (s : State) : (setReceiver r s).batch = s.batch := rfl
@[simp] theorem setReceiver_sup (r : Receiver) (s : State) : (setReceiver r s).sup = s.sup := rfl
@[simp] theorem setReceiver_clock (r : Receiver) (s : State) : (setReceiver r s).clock = s.clock := rfl
@[simp] theorem setReceiver_board (r : Receiver) (s : State) : (setReceiver r s).board = s.board := rfl
@[simp] theorem setReceiver_overlays (r : Receiver) (s : State) : (setReceiver r s).overlays = s.overlays := rfl
@[simp] theorem setReceiver_phrases (r : Receiver) (s : State) : (setReceiver r s).phrases = s.phrases := rfl
@[simp] theorem setReceiver_fonts (r : Receiver) (s : State) : (setReceiver r s).fonts = s.fonts := rfl
@[simp] theorem setReceiver_coder (r : Receiver) (s : State) : (setReceiver r s).coder = s.coder := rfl
@[simp] theorem setReceiver_chain (r : Receiver) (s : State) : (setReceiver r s).chain = s.chain := rfl
@[simp] theorem setReceiver_light (r : Receiver) (s : State) : (setReceiver r s).light = s.light := rfl
@[simp] theorem setReceiver_handler (r : Receiver) (s : State) : (setReceiver r s).handler = s.handler := rfl
@[simp] theorem setReceiver_unit (r : Receiver) (s : State) : (setReceiver r s).unit = s.unit := rfl
@[simp] theorem setReceiver_notices (r : Receiver) (s : State) : (setReceiver r s).notices = s.notices := rfl
@[simp] theorem setReceiver_tickTaken (r : Receiver) (s : State) : (setReceiver r s).tickTaken = s.tickTaken := rfl
@[simp] theorem setReceiver_subTaken (r : Receiver) (s : State) : (setReceiver r s).subTaken = s.subTaken := rfl
@[simp] theorem setReceiver_pending (r : Receiver) (s : State) : (setReceiver r s).pending = s.pending := rfl

/-! ### setWork -/

@[simp] theorem setWork_chain (w : ChainWork) (s : State) : (setWork w s).chain = { s.chain with work := w } := rfl
@[simp] theorem setWork_table (w : ChainWork) (s : State) : (setWork w s).table = s.table := rfl
@[simp] theorem setWork_batch (w : ChainWork) (s : State) : (setWork w s).batch = s.batch := rfl
@[simp] theorem setWork_sup (w : ChainWork) (s : State) : (setWork w s).sup = s.sup := rfl
@[simp] theorem setWork_clock (w : ChainWork) (s : State) : (setWork w s).clock = s.clock := rfl
@[simp] theorem setWork_board (w : ChainWork) (s : State) : (setWork w s).board = s.board := rfl
@[simp] theorem setWork_overlays (w : ChainWork) (s : State) : (setWork w s).overlays = s.overlays := rfl
@[simp] theorem setWork_phrases (w : ChainWork) (s : State) : (setWork w s).phrases = s.phrases := rfl
@[simp] theorem setWork_fonts (w : ChainWork) (s : State) : (setWork w s).fonts = s.fonts := rfl
@[simp] theorem setWork_coder (w : ChainWork) (s : State) : (setWork w s).coder = s.coder := rfl
@[simp] theorem setWork_light (w : ChainWork) (s : State) : (setWork w s).light = s.light := rfl
@[simp] theorem setWork_line (w : ChainWork) (s : State) : (setWork w s).line = s.line := rfl
@[simp] theorem setWork_handler (w : ChainWork) (s : State) : (setWork w s).handler = s.handler := rfl
@[simp] theorem setWork_unit (w : ChainWork) (s : State) : (setWork w s).unit = s.unit := rfl
@[simp] theorem setWork_notices (w : ChainWork) (s : State) : (setWork w s).notices = s.notices := rfl
@[simp] theorem setWork_tickTaken (w : ChainWork) (s : State) : (setWork w s).tickTaken = s.tickTaken := rfl
@[simp] theorem setWork_subTaken (w : ChainWork) (s : State) : (setWork w s).subTaken = s.subTaken := rfl
@[simp] theorem setWork_pending (w : ChainWork) (s : State) : (setWork w s).pending = s.pending := rfl

/-! ### setRec -/

@[simp] theorem setRec_chain (p : Pos) (r : PanelRecord) (s : State) : (setRec p r s).chain = { s.chain with recs := s.chain.recs.set p r } := rfl
@[simp] theorem setRec_table (p : Pos) (r : PanelRecord) (s : State) : (setRec p r s).table = s.table := rfl
@[simp] theorem setRec_batch (p : Pos) (r : PanelRecord) (s : State) : (setRec p r s).batch = s.batch := rfl
@[simp] theorem setRec_sup (p : Pos) (r : PanelRecord) (s : State) : (setRec p r s).sup = s.sup := rfl
@[simp] theorem setRec_clock (p : Pos) (r : PanelRecord) (s : State) : (setRec p r s).clock = s.clock := rfl
@[simp] theorem setRec_board (p : Pos) (r : PanelRecord) (s : State) : (setRec p r s).board = s.board := rfl
@[simp] theorem setRec_overlays (p : Pos) (r : PanelRecord) (s : State) : (setRec p r s).overlays = s.overlays := rfl
@[simp] theorem setRec_phrases (p : Pos) (r : PanelRecord) (s : State) : (setRec p r s).phrases = s.phrases := rfl
@[simp] theorem setRec_fonts (p : Pos) (r : PanelRecord) (s : State) : (setRec p r s).fonts = s.fonts := rfl
@[simp] theorem setRec_coder (p : Pos) (r : PanelRecord) (s : State) : (setRec p r s).coder = s.coder := rfl
@[simp] theorem setRec_light (p : Pos) (r : PanelRecord) (s : State) : (setRec p r s).light = s.light := rfl
@[simp] theorem setRec_line (p : Pos) (r : PanelRecord) (s : State) : (setRec p r s).line = s.line := rfl
@[simp] theorem setRec_handler (p : Pos) (r : PanelRecord) (s : State) : (setRec p r s).handler = s.handler := rfl
@[simp] theorem setRec_unit (p : Pos) (r : PanelRecord) (s : State) : (setRec p r s).unit = s.unit := rfl
@[simp] theorem setRec_notices (p : Pos) (r : PanelRecord) (s : State) : (setRec p r s).notices = s.notices := rfl
@[simp] theorem setRec_tickTaken (p : Pos) (r : PanelRecord) (s : State) : (setRec p r s).tickTaken = s.tickTaken := rfl
@[simp] theorem setRec_subTaken (p : Pos) (r : PanelRecord) (s : State) : (setRec p r s).subTaken = s.subTaken := rfl
@[simp] theorem setRec_pending (p : Pos) (r : PanelRecord) (s : State) : (setRec p r s).pending = s.pending := rfl

/-! ### sendPacket -/

@[simp] theorem sendPacket_chain (k : Packet) (s : State) : (sendPacket k s).chain = { s.chain with out := some k } := rfl
@[simp] theorem sendPacket_table (k : Packet) (s : State) : (sendPacket k s).table = s.table := rfl
@[simp] theorem sendPacket_batch (k : Packet) (s : State) : (sendPacket k s).batch = s.batch := rfl
@[simp] theorem sendPacket_sup (k : Packet) (s : State) : (sendPacket k s).sup = s.sup := rfl
@[simp] theorem sendPacket_clock (k : Packet) (s : State) : (sendPacket k s).clock = s.clock := rfl
@[simp] theorem sendPacket_board (k : Packet) (s : State) : (sendPacket k s).board = s.board := rfl
@[simp] theorem sendPacket_overlays (k : Packet) (s : State) : (sendPacket k s).overlays = s.overlays := rfl
@[simp] theorem sendPacket_phrases (k : Packet) (s : State) : (sendPacket k s).phrases = s.phrases := rfl
@[simp] theorem sendPacket_fonts (k : Packet) (s : State) : (sendPacket k s).fonts = s.fonts := rfl
@[simp] theorem sendPacket_coder (k : Packet) (s : State) : (sendPacket k s).coder = s.coder := rfl
@[simp] theorem sendPacket_light (k : Packet) (s : State) : (sendPacket k s).light = s.light := rfl
@[simp] theorem sendPacket_line (k : Packet) (s : State) : (sendPacket k s).line = s.line := rfl
@[simp] theorem sendPacket_handler (k : Packet) (s : State) : (sendPacket k s).handler = s.handler := rfl
@[simp] theorem sendPacket_unit (k : Packet) (s : State) : (sendPacket k s).unit = s.unit := rfl
@[simp] theorem sendPacket_notices (k : Packet) (s : State) : (sendPacket k s).notices = s.notices := rfl
@[simp] theorem sendPacket_tickTaken (k : Packet) (s : State) : (sendPacket k s).tickTaken = s.tickTaken := rfl
@[simp] theorem sendPacket_subTaken (k : Packet) (s : State) : (sendPacket k s).subTaken = s.subTaken := rfl
@[simp] theorem sendPacket_pending (k : Packet) (s : State) : (sendPacket k s).pending = s.pending := rfl

/-! ### markPalettes -/

@[simp] theorem markPalettes_table (s : State) : (markPalettes s).table = s.table := rfl
@[simp] theorem markPalettes_batch (s : State) : (markPalettes s).batch = s.batch := rfl
@[simp] theorem markPalettes_sup (s : State) : (markPalettes s).sup = s.sup := rfl
@[simp] theorem markPalettes_clock (s : State) : (markPalettes s).clock = s.clock := rfl
@[simp] theorem markPalettes_board (s : State) : (markPalettes s).board = s.board := rfl
@[simp] theorem markPalettes_overlays (s : State) : (markPalettes s).overlays = s.overlays := rfl
@[simp] theorem markPalettes_phrases (s : State) : (markPalettes s).phrases = s.phrases := rfl
@[simp] theorem markPalettes_fonts (s : State) : (markPalettes s).fonts = s.fonts := rfl
@[simp] theorem markPalettes_chain (s : State) : (markPalettes s).chain = s.chain := rfl
@[simp] theorem markPalettes_light (s : State) : (markPalettes s).light = s.light := rfl
@[simp] theorem markPalettes_line (s : State) : (markPalettes s).line = s.line := rfl
@[simp] theorem markPalettes_handler (s : State) : (markPalettes s).handler = s.handler := rfl
@[simp] theorem markPalettes_unit (s : State) : (markPalettes s).unit = s.unit := rfl
@[simp] theorem markPalettes_notices (s : State) : (markPalettes s).notices = s.notices := rfl
@[simp] theorem markPalettes_tickTaken (s : State) : (markPalettes s).tickTaken = s.tickTaken := rfl
@[simp] theorem markPalettes_subTaken (s : State) : (markPalettes s).subTaken = s.subTaken := rfl
@[simp] theorem markPalettes_pending (s : State) : (markPalettes s).pending = s.pending := rfl

/-! ### clearMarks -/

@[simp] theorem clearMarks_table (s : State) : (clearMarks s).table = s.table := rfl
@[simp] theorem clearMarks_batch (s : State) : (clearMarks s).batch = s.batch := rfl
@[simp] theorem clearMarks_sup (s : State) : (clearMarks s).sup = s.sup := rfl
@[simp] theorem clearMarks_clock (s : State) : (clearMarks s).clock = s.clock := rfl
@[simp] theorem clearMarks_board (s : State) : (clearMarks s).board = s.board := rfl
@[simp] theorem clearMarks_overlays (s : State) : (clearMarks s).overlays = s.overlays := rfl
@[simp] theorem clearMarks_phrases (s : State) : (clearMarks s).phrases = s.phrases := rfl
@[simp] theorem clearMarks_fonts (s : State) : (clearMarks s).fonts = s.fonts := rfl
@[simp] theorem clearMarks_chain (s : State) : (clearMarks s).chain = s.chain := rfl
@[simp] theorem clearMarks_light (s : State) : (clearMarks s).light = s.light := rfl
@[simp] theorem clearMarks_line (s : State) : (clearMarks s).line = s.line := rfl
@[simp] theorem clearMarks_handler (s : State) : (clearMarks s).handler = s.handler := rfl
@[simp] theorem clearMarks_unit (s : State) : (clearMarks s).unit = s.unit := rfl
@[simp] theorem clearMarks_notices (s : State) : (clearMarks s).notices = s.notices := rfl
@[simp] theorem clearMarks_tickTaken (s : State) : (clearMarks s).tickTaken = s.tickTaken := rfl
@[simp] theorem clearMarks_subTaken (s : State) : (clearMarks s).subTaken = s.subTaken := rfl
@[simp] theorem clearMarks_pending (s : State) : (clearMarks s).pending = s.pending := rfl

/-! ### paint -/

@[simp] theorem paint_table (c : Canvas) (s : State) : (paint c s).table = s.table := rfl
@[simp] theorem paint_batch (c : Canvas) (s : State) : (paint c s).batch = s.batch := rfl
@[simp] theorem paint_sup (c : Canvas) (s : State) : (paint c s).sup = s.sup := rfl
@[simp] theorem paint_clock (c : Canvas) (s : State) : (paint c s).clock = s.clock := rfl
@[simp] theorem paint_overlays (c : Canvas) (s : State) : (paint c s).overlays = s.overlays := rfl
@[simp] theorem paint_phrases (c : Canvas) (s : State) : (paint c s).phrases = s.phrases := rfl
@[simp] theorem paint_fonts (c : Canvas) (s : State) : (paint c s).fonts = s.fonts := rfl
@[simp] theorem paint_chain (c : Canvas) (s : State) : (paint c s).chain = s.chain := rfl
@[simp] theorem paint_light (c : Canvas) (s : State) : (paint c s).light = s.light := rfl
@[simp] theorem paint_line (c : Canvas) (s : State) : (paint c s).line = s.line := rfl
@[simp] theorem paint_handler (c : Canvas) (s : State) : (paint c s).handler = s.handler := rfl
@[simp] theorem paint_unit (c : Canvas) (s : State) : (paint c s).unit = s.unit := rfl
@[simp] theorem paint_notices (c : Canvas) (s : State) : (paint c s).notices = s.notices := rfl
@[simp] theorem paint_tickTaken (c : Canvas) (s : State) : (paint c s).tickTaken = s.tickTaken := rfl
@[simp] theorem paint_subTaken (c : Canvas) (s : State) : (paint c s).subTaken = s.subTaken := rfl
@[simp] theorem paint_pending (c : Canvas) (s : State) : (paint c s).pending = s.pending := rfl

/-! ### openFrame -/

@[simp] theorem openFrame_table (s : State) : (openFrame s).table = s.table := rfl
@[simp] theorem openFrame_batch (s : State) : (openFrame s).batch = s.batch := rfl
@[simp] theorem openFrame_sup (s : State) : (openFrame s).sup = s.sup := rfl
@[simp] theorem openFrame_clock (s : State) : (openFrame s).clock = s.clock := rfl
@[simp] theorem openFrame_board (s : State) : (openFrame s).board = s.board := rfl
@[simp] theorem openFrame_overlays (s : State) : (openFrame s).overlays = s.overlays := rfl
@[simp] theorem openFrame_phrases (s : State) : (openFrame s).phrases = s.phrases := rfl
@[simp] theorem openFrame_fonts (s : State) : (openFrame s).fonts = s.fonts := rfl
@[simp] theorem openFrame_chain (s : State) : (openFrame s).chain = s.chain := rfl
@[simp] theorem openFrame_light (s : State) : (openFrame s).light = s.light := rfl
@[simp] theorem openFrame_line (s : State) : (openFrame s).line = s.line := rfl
@[simp] theorem openFrame_handler (s : State) : (openFrame s).handler = s.handler := rfl
@[simp] theorem openFrame_unit (s : State) : (openFrame s).unit = s.unit := rfl
@[simp] theorem openFrame_notices (s : State) : (openFrame s).notices = s.notices := rfl
@[simp] theorem openFrame_tickTaken (s : State) : (openFrame s).tickTaken = s.tickTaken := rfl
@[simp] theorem openFrame_subTaken (s : State) : (openFrame s).subTaken = s.subTaken := rfl
@[simp] theorem openFrame_pending (s : State) : (openFrame s).pending = s.pending := rfl

/-! ### endDelivery -/

@[simp] theorem endDelivery_table (s : State) : (endDelivery s).table = s.table := rfl
@[simp] theorem endDelivery_batch (s : State) : (endDelivery s).batch = s.batch := rfl
@[simp] theorem endDelivery_sup (s : State) : (endDelivery s).sup = s.sup := rfl
@[simp] theorem endDelivery_clock (s : State) : (endDelivery s).clock = s.clock := rfl
@[simp] theorem endDelivery_board (s : State) : (endDelivery s).board = s.board := rfl
@[simp] theorem endDelivery_overlays (s : State) : (endDelivery s).overlays = s.overlays := rfl
@[simp] theorem endDelivery_phrases (s : State) : (endDelivery s).phrases = s.phrases := rfl
@[simp] theorem endDelivery_fonts (s : State) : (endDelivery s).fonts = s.fonts := rfl
@[simp] theorem endDelivery_light (s : State) : (endDelivery s).light = s.light := rfl
@[simp] theorem endDelivery_line (s : State) : (endDelivery s).line = s.line := rfl
@[simp] theorem endDelivery_handler (s : State) : (endDelivery s).handler = s.handler := rfl
@[simp] theorem endDelivery_unit (s : State) : (endDelivery s).unit = s.unit := rfl
@[simp] theorem endDelivery_notices (s : State) : (endDelivery s).notices = s.notices := rfl
@[simp] theorem endDelivery_tickTaken (s : State) : (endDelivery s).tickTaken = s.tickTaken := rfl
@[simp] theorem endDelivery_subTaken (s : State) : (endDelivery s).subTaken = s.subTaken := rfl
@[simp] theorem endDelivery_pending (s : State) : (endDelivery s).pending = s.pending := rfl

/-! ### A held clock, and line records held (logs 16 and 17) -/

/-- At the hold a held clock takes no advance, and the slew point alone touches its pending slew (R40, R45). -/
theorem runClock_of_atHold (slewPoint : Bool) (c : Clock) (h : atHold c = true) :
    runClock slewPoint c = { c with slew := if slewPoint = true then 0 else c.slew } := by
  simp only [runClock, h, if_true]

@[simp] theorem heldLines_built (b : Board) (rs : List LineRecord) : heldLines { b with lines := some rs } = rs := rfl
@[simp] theorem heldLines_not_built (b : Board) : heldLines { b with lines := none } = b.kept := rfl

/-! ### The building of line records (log 17) -/

@[simp] theorem buildLine_content (s : State) (l : LineDef) (o : Option LineRecord) :
    (buildLine s l o).content = buildContent s l.kind := rfl
@[simp] theorem buildLine_covered (s : State) (l : LineDef) (o : Option LineRecord) :
    (buildLine s l o).covered = o.any fun r => r.covered := rfl

/-- What a building gives as the drawn phrase: a covered BAND line keeps that of the last render, any other has its own (R70, R81). -/
theorem buildLine_drawn (s : State) (l : LineDef) (o : Option LineRecord) :
    (∀ r, o = some r → r.covered = true → (buildLine s l o).drawn
        = match (buildLine s l o).content with | .band _ => r.drawn | c => ownPhrase c)
    ∧ ((∀ r, o = some r → r.covered = false) → (buildLine s l o).drawn = ownPhrase (buildLine s l o).content) := by
  constructor
  · rintro r rfl h
    cases hk : l.kind <;> simp only [buildLine, builtPhrase, buildContent, hk, h, if_true]
    split <;> rfl
  · intro h
    cases o with
    | none => cases hk : l.kind <;> simp [buildLine, builtPhrase, hk]
    | some r => cases hk : l.kind <;> simp [buildLine, builtPhrase, hk, h r rfl]

/-- Each line of a page is built from its own definition and from what is held of its own record (R66). -/
theorem getElem?_buildLines (s : State) (ls : List LineDef) (old : List LineRecord) (k : Nat) :
    (buildLines s ls old)[k]? = ls[k]?.map fun l => buildLine s l old[k]? := by
  induction ls generalizing old k with
  | nil => rfl
  | cons l ls ih =>
    cases k with
    | zero => simp [buildLines, List.head?_eq_getElem?]
    | succ k => simp [buildLines, ih, List.getElem?_tail]

/-! ### choosePage -/

@[simp] theorem choosePage_current (i : Fin 4) (s : State) : (choosePage i s).board.current = choice s i := rfl
@[simp] theorem choosePage_lines (i : Fin 4) (s : State) : (choosePage i s).board.lines = none := rfl
@[simp] theorem choosePage_kept (i : Fin 4) (s : State) :
    (choosePage i s).board.kept = if choice s i = s.board.current then heldLines s.board else [] := rfl
@[simp] theorem choosePage_rendered (i : Fin 4) (s : State) :
    (choosePage i s).board.rendered = (s.board.rendered && decide (choice s i = s.board.current)) := rfl
@[simp] theorem choosePage_table (i : Fin 4) (s : State) : (choosePage i s).table = s.table := rfl
@[simp] theorem choosePage_batch (i : Fin 4) (s : State) : (choosePage i s).batch = s.batch := rfl
@[simp] theorem choosePage_sup (i : Fin 4) (s : State) : (choosePage i s).sup = s.sup := rfl
@[simp] theorem choosePage_clock (i : Fin 4) (s : State) : (choosePage i s).clock = s.clock := rfl
@[simp] theorem choosePage_overlays (i : Fin 4) (s : State) : (choosePage i s).overlays = s.overlays := rfl
@[simp] theorem choosePage_phrases (i : Fin 4) (s : State) : (choosePage i s).phrases = s.phrases := rfl
@[simp] theorem choosePage_fonts (i : Fin 4) (s : State) : (choosePage i s).fonts = s.fonts := rfl
@[simp] theorem choosePage_coder (i : Fin 4) (s : State) : (choosePage i s).coder = s.coder := rfl
@[simp] theorem choosePage_chain (i : Fin 4) (s : State) : (choosePage i s).chain = s.chain := rfl
@[simp] theorem choosePage_light (i : Fin 4) (s : State) : (choosePage i s).light = s.light := rfl
@[simp] theorem choosePage_line (i : Fin 4) (s : State) : (choosePage i s).line = s.line := rfl
@[simp] theorem choosePage_handler (i : Fin 4) (s : State) : (choosePage i s).handler = s.handler := rfl
@[simp] theorem choosePage_unit (i : Fin 4) (s : State) : (choosePage i s).unit = s.unit := rfl
@[simp] theorem choosePage_notices (i : Fin 4) (s : State) : (choosePage i s).notices = s.notices := rfl
@[simp] theorem choosePage_tickTaken (i : Fin 4) (s : State) : (choosePage i s).tickTaken = s.tickTaken := rfl
@[simp] theorem choosePage_subTaken (i : Fin 4) (s : State) : (choosePage i s).subTaken = s.subTaken := rfl
@[simp] theorem choosePage_pending (i : Fin 4) (s : State) : (choosePage i s).pending = s.pending := rfl

/-! ### uptimeTick -/

@[simp] theorem uptimeTick_unit (s : State) : (uptimeTick s).unit = { s.unit with uptime := satInc maxUptime s.unit.uptime } := rfl
@[simp] theorem uptimeTick_table (s : State) : (uptimeTick s).table = s.table := rfl
@[simp] theorem uptimeTick_batch (s : State) : (uptimeTick s).batch = s.batch := rfl
@[simp] theorem uptimeTick_sup (s : State) : (uptimeTick s).sup = s.sup := rfl
@[simp] theorem uptimeTick_clock (s : State) : (uptimeTick s).clock = s.clock := rfl
@[simp] theorem uptimeTick_board (s : State) : (uptimeTick s).board = s.board := rfl
@[simp] theorem uptimeTick_overlays (s : State) : (uptimeTick s).overlays = s.overlays := rfl
@[simp] theorem uptimeTick_phrases (s : State) : (uptimeTick s).phrases = s.phrases := rfl
@[simp] theorem uptimeTick_fonts (s : State) : (uptimeTick s).fonts = s.fonts := rfl
@[simp] theorem uptimeTick_coder (s : State) : (uptimeTick s).coder = s.coder := rfl
@[simp] theorem uptimeTick_chain (s : State) : (uptimeTick s).chain = s.chain := rfl
@[simp] theorem uptimeTick_light (s : State) : (uptimeTick s).light = s.light := rfl
@[simp] theorem uptimeTick_line (s : State) : (uptimeTick s).line = s.line := rfl
@[simp] theorem uptimeTick_handler (s : State) : (uptimeTick s).handler = s.handler := rfl
@[simp] theorem uptimeTick_notices (s : State) : (uptimeTick s).notices = s.notices := rfl
@[simp] theorem uptimeTick_tickTaken (s : State) : (uptimeTick s).tickTaken = s.tickTaken := rfl
@[simp] theorem uptimeTick_subTaken (s : State) : (uptimeTick s).subTaken = s.subTaken := rfl
@[simp] theorem uptimeTick_pending (s : State) : (uptimeTick s).pending = s.pending := rfl

end Sys2Proof.Machine
end

