-- ==== Sys2Proof/Laws/Frames.lean ====
section
/-! SUPPORT. What each shared operation leaves as it was: one frame equation per operation, naming the fields it can change, and one lemma per untouched field. -/

namespace Sys2Proof.Machine

open Sys2Proof

/-! ### offerAll -/

theorem offerAll_frame (ks : List (NoticeKind × Nat)) (s : State) :
    offerAll ks s = { s with notices := (offerAll ks s).notices } := by
  induction ks generalizing s with
  | nil => rfl
  | cons k ks ih => exact ih (offer k.1 k.2 s)

@[simp] theorem offerAll_table (ks : List (NoticeKind × Nat)) (s : State) : (offerAll ks s).table = s.table := by rw [offerAll_frame]
@[simp] theorem offerAll_batch (ks : List (NoticeKind × Nat)) (s : State) : (offerAll ks s).batch = s.batch := by rw [offerAll_frame]
@[simp] theorem offerAll_sup (ks : List (NoticeKind × Nat)) (s : State) : (offerAll ks s).sup = s.sup := by rw [offerAll_frame]
@[simp] theorem offerAll_clock (ks : List (NoticeKind × Nat)) (s : State) : (offerAll ks s).clock = s.clock := by rw [offerAll_frame]
@[simp] theorem offerAll_board (ks : List (NoticeKind × Nat)) (s : State) : (offerAll ks s).board = s.board := by rw [offerAll_frame]
@[simp] theorem offerAll_overlays (ks : List (NoticeKind × Nat)) (s : State) : (offerAll ks s).overlays = s.overlays := by rw [offerAll_frame]
@[simp] theorem offerAll_phrases (ks : List (NoticeKind × Nat)) (s : State) : (offerAll ks s).phrases = s.phrases := by rw [offerAll_frame]
@[simp] theorem offerAll_fonts (ks : List (NoticeKind × Nat)) (s : State) : (offerAll ks s).fonts = s.fonts := by rw [offerAll_frame]
@[simp] theorem offerAll_coder (ks : List (NoticeKind × Nat)) (s : State) : (offerAll ks s).coder = s.coder := by rw [offerAll_frame]
@[simp] theorem offerAll_chain (ks : List (NoticeKind × Nat)) (s : State) : (offerAll ks s).chain = s.chain := by rw [offerAll_frame]
@[simp] theorem offerAll_light (ks : List (NoticeKind × Nat)) (s : State) : (offerAll ks s).light = s.light := by rw [offerAll_frame]
@[simp] theorem offerAll_line (ks : List (NoticeKind × Nat)) (s : State) : (offerAll ks s).line = s.line := by rw [offerAll_frame]
@[simp] theorem offerAll_handler (ks : List (NoticeKind × Nat)) (s : State) : (offerAll ks s).handler = s.handler := by rw [offerAll_frame]
@[simp] theorem offerAll_unit (ks : List (NoticeKind × Nat)) (s : State) : (offerAll ks s).unit = s.unit := by rw [offerAll_frame]
@[simp] theorem offerAll_tickTaken (ks : List (NoticeKind × Nat)) (s : State) : (offerAll ks s).tickTaken = s.tickTaken := by rw [offerAll_frame]
@[simp] theorem offerAll_subTaken (ks : List (NoticeKind × Nat)) (s : State) : (offerAll ks s).subTaken = s.subTaken := by rw [offerAll_frame]
@[simp] theorem offerAll_pending (ks : List (NoticeKind × Nat)) (s : State) : (offerAll ks s).pending = s.pending := by rw [offerAll_frame]

/-! ### dropReply -/

theorem dropReply_frame (c : Carried) (s : State) :
    dropReply c s = { s with handler := (dropReply c s).handler } := by
  unfold dropReply
  (repeat' split) <;> rfl

@[simp] theorem dropReply_table (c : Carried) (s : State) : (dropReply c s).table = s.table := by rw [dropReply_frame]
@[simp] theorem dropReply_batch (c : Carried) (s : State) : (dropReply c s).batch = s.batch := by rw [dropReply_frame]
@[simp] theorem dropReply_sup (c : Carried) (s : State) : (dropReply c s).sup = s.sup := by rw [dropReply_frame]
@[simp] theorem dropReply_clock (c : Carried) (s : State) : (dropReply c s).clock = s.clock := by rw [dropReply_frame]
@[simp] theorem dropReply_board (c : Carried) (s : State) : (dropReply c s).board = s.board := by rw [dropReply_frame]
@[simp] theorem dropReply_overlays (c : Carried) (s : State) : (dropReply c s).overlays = s.overlays := by rw [dropReply_frame]
@[simp] theorem dropReply_phrases (c : Carried) (s : State) : (dropReply c s).phrases = s.phrases := by rw [dropReply_frame]
@[simp] theorem dropReply_fonts (c : Carried) (s : State) : (dropReply c s).fonts = s.fonts := by rw [dropReply_frame]
@[simp] theorem dropReply_coder (c : Carried) (s : State) : (dropReply c s).coder = s.coder := by rw [dropReply_frame]
@[simp] theorem dropReply_chain (c : Carried) (s : State) : (dropReply c s).chain = s.chain := by rw [dropReply_frame]
@[simp] theorem dropReply_light (c : Carried) (s : State) : (dropReply c s).light = s.light := by rw [dropReply_frame]
@[simp] theorem dropReply_line (c : Carried) (s : State) : (dropReply c s).line = s.line := by rw [dropReply_frame]
@[simp] theorem dropReply_unit (c : Carried) (s : State) : (dropReply c s).unit = s.unit := by rw [dropReply_frame]
@[simp] theorem dropReply_notices (c : Carried) (s : State) : (dropReply c s).notices = s.notices := by rw [dropReply_frame]
@[simp] theorem dropReply_tickTaken (c : Carried) (s : State) : (dropReply c s).tickTaken = s.tickTaken := by rw [dropReply_frame]
@[simp] theorem dropReply_subTaken (c : Carried) (s : State) : (dropReply c s).subTaken = s.subTaken := by rw [dropReply_frame]
@[simp] theorem dropReply_pending (c : Carried) (s : State) : (dropReply c s).pending = s.pending := by rw [dropReply_frame]

/-! ### dropReplies -/

theorem dropReplies_frame (rs : List Reply) (s : State) :
    dropReplies rs s = { s with handler := (dropReplies rs s).handler } := by
  induction rs generalizing s with
  | nil => rfl
  | cons r rs ih =>
    have h := ih (dropReply r.carried s)
    rw [dropReply_frame r.carried s] at h
    simp only [dropReplies, List.foldl_cons]
    rw [dropReply_frame r.carried s]
    exact h

@[simp] theorem dropReplies_table (rs : List Reply) (s : State) : (dropReplies rs s).table = s.table := by rw [dropReplies_frame]
@[simp] theorem dropReplies_batch (rs : List Reply) (s : State) : (dropReplies rs s).batch = s.batch := by rw [dropReplies_frame]
@[simp] theorem dropReplies_sup (rs : List Reply) (s : State) : (dropReplies rs s).sup = s.sup := by rw [dropReplies_frame]
@[simp] theorem dropReplies_clock (rs : List Reply) (s : State) : (dropReplies rs s).clock = s.clock := by rw [dropReplies_frame]
@[simp] theorem dropReplies_board (rs : List Reply) (s : State) : (dropReplies rs s).board = s.board := by rw [dropReplies_frame]
@[simp] theorem dropReplies_overlays (rs : List Reply) (s : State) : (dropReplies rs s).overlays = s.overlays := by rw [dropReplies_frame]
@[simp] theorem dropReplies_phrases (rs : List Reply) (s : State) : (dropReplies rs s).phrases = s.phrases := by rw [dropReplies_frame]
@[simp] theorem dropReplies_fonts (rs : List Reply) (s : State) : (dropReplies rs s).fonts = s.fonts := by rw [dropReplies_frame]
@[simp] theorem dropReplies_coder (rs : List Reply) (s : State) : (dropReplies rs s).coder = s.coder := by rw [dropReplies_frame]
@[simp] theorem dropReplies_chain (rs : List Reply) (s : State) : (dropReplies rs s).chain = s.chain := by rw [dropReplies_frame]
@[simp] theorem dropReplies_light (rs : List Reply) (s : State) : (dropReplies rs s).light = s.light := by rw [dropReplies_frame]
@[simp] theorem dropReplies_line (rs : List Reply) (s : State) : (dropReplies rs s).line = s.line := by rw [dropReplies_frame]
@[simp] theorem dropReplies_unit (rs : List Reply) (s : State) : (dropReplies rs s).unit = s.unit := by rw [dropReplies_frame]
@[simp] theorem dropReplies_notices (rs : List Reply) (s : State) : (dropReplies rs s).notices = s.notices := by rw [dropReplies_frame]
@[simp] theorem dropReplies_tickTaken (rs : List Reply) (s : State) : (dropReplies rs s).tickTaken = s.tickTaken := by rw [dropReplies_frame]
@[simp] theorem dropReplies_subTaken (rs : List Reply) (s : State) : (dropReplies rs s).subTaken = s.subTaken := by rw [dropReplies_frame]
@[simp] theorem dropReplies_pending (rs : List Reply) (s : State) : (dropReplies rs s).pending = s.pending := by rw [dropReplies_frame]

/-! ### setWaiting -/

theorem setWaiting_frame (rs : List Reply) (s : State) :
    setWaiting rs s = { s with line := (setWaiting rs s).line, handler := (setWaiting rs s).handler } := by
  unfold setWaiting
  (repeat' split) <;> (try rw [dropReply_frame]) <;> rfl

@[simp] theorem setWaiting_table (rs : List Reply) (s : State) : (setWaiting rs s).table = s.table := by rw [setWaiting_frame]
@[simp] theorem setWaiting_batch (rs : List Reply) (s : State) : (setWaiting rs s).batch = s.batch := by rw [setWaiting_frame]
@[simp] theorem setWaiting_sup (rs : List Reply) (s : State) : (setWaiting rs s).sup = s.sup := by rw [setWaiting_frame]
@[simp] theorem setWaiting_clock (rs : List Reply) (s : State) : (setWaiting rs s).clock = s.clock := by rw [setWaiting_frame]
@[simp] theorem setWaiting_board (rs : List Reply) (s : State) : (setWaiting rs s).board = s.board := by rw [setWaiting_frame]
@[simp] theorem setWaiting_overlays (rs : List Reply) (s : State) : (setWaiting rs s).overlays = s.overlays := by rw [setWaiting_frame]
@[simp] theorem setWaiting_phrases (rs : List Reply) (s : State) : (setWaiting rs s).phrases = s.phrases := by rw [setWaiting_frame]
@[simp] theorem setWaiting_fonts (rs : List Reply) (s : State) : (setWaiting rs s).fonts = s.fonts := by rw [setWaiting_frame]
@[simp] theorem setWaiting_coder (rs : List Reply) (s : State) : (setWaiting rs s).coder = s.coder := by rw [setWaiting_frame]
@[simp] theorem setWaiting_chain (rs : List Reply) (s : State) : (setWaiting rs s).chain = s.chain := by rw [setWaiting_frame]
@[simp] theorem setWaiting_light (rs : List Reply) (s : State) : (setWaiting rs s).light = s.light := by rw [setWaiting_frame]
@[simp] theorem setWaiting_unit (rs : List Reply) (s : State) : (setWaiting rs s).unit = s.unit := by rw [setWaiting_frame]
@[simp] theorem setWaiting_notices (rs : List Reply) (s : State) : (setWaiting rs s).notices = s.notices := by rw [setWaiting_frame]
@[simp] theorem setWaiting_tickTaken (rs : List Reply) (s : State) : (setWaiting rs s).tickTaken = s.tickTaken := by rw [setWaiting_frame]
@[simp] theorem setWaiting_subTaken (rs : List Reply) (s : State) : (setWaiting rs s).subTaken = s.subTaken := by rw [setWaiting_frame]
@[simp] theorem setWaiting_pending (rs : List Reply) (s : State) : (setWaiting rs s).pending = s.pending := by rw [setWaiting_frame]

/-! ### handOver -/

theorem handOver_frame (lost : Bool) (r : Reply) (s : State) :
    handOver lost r s = { s with line := (handOver lost r s).line, handler := (handOver lost r s).handler } := by
  unfold handOver
  split
  · rw [dropReply_frame]
  · rw [setWaiting_frame]

@[simp] theorem handOver_table (lost : Bool) (r : Reply) (s : State) : (handOver lost r s).table = s.table := by rw [handOver_frame]
@[simp] theorem handOver_batch (lost : Bool) (r : Reply) (s : State) : (handOver lost r s).batch = s.batch := by rw [handOver_frame]
@[simp] theorem handOver_sup (lost : Bool) (r : Reply) (s : State) : (handOver lost r s).sup = s.sup := by rw [handOver_frame]
@[simp] theorem handOver_clock (lost : Bool) (r : Reply) (s : State) : (handOver lost r s).clock = s.clock := by rw [handOver_frame]
@[simp] theorem handOver_board (lost : Bool) (r : Reply) (s : State) : (handOver lost r s).board = s.board := by rw [handOver_frame]
@[simp] theorem handOver_overlays (lost : Bool) (r : Reply) (s : State) : (handOver lost r s).overlays = s.overlays := by rw [handOver_frame]
@[simp] theorem handOver_phrases (lost : Bool) (r : Reply) (s : State) : (handOver lost r s).phrases = s.phrases := by rw [handOver_frame]
@[simp] theorem handOver_fonts (lost : Bool) (r : Reply) (s : State) : (handOver lost r s).fonts = s.fonts := by rw [handOver_frame]
@[simp] theorem handOver_coder (lost : Bool) (r : Reply) (s : State) : (handOver lost r s).coder = s.coder := by rw [handOver_frame]
@[simp] theorem handOver_chain (lost : Bool) (r : Reply) (s : State) : (handOver lost r s).chain = s.chain := by rw [handOver_frame]
@[simp] theorem handOver_light (lost : Bool) (r : Reply) (s : State) : (handOver lost r s).light = s.light := by rw [handOver_frame]
@[simp] theorem handOver_unit (lost : Bool) (r : Reply) (s : State) : (handOver lost r s).unit = s.unit := by rw [handOver_frame]
@[simp] theorem handOver_notices (lost : Bool) (r : Reply) (s : State) : (handOver lost r s).notices = s.notices := by rw [handOver_frame]
@[simp] theorem handOver_tickTaken (lost : Bool) (r : Reply) (s : State) : (handOver lost r s).tickTaken = s.tickTaken := by rw [handOver_frame]
@[simp] theorem handOver_subTaken (lost : Bool) (r : Reply) (s : State) : (handOver lost r s).subTaken = s.subTaken := by rw [handOver_frame]
@[simp] theorem handOver_pending (lost : Bool) (r : Reply) (s : State) : (handOver lost r s).pending = s.pending := by rw [handOver_frame]

/-! ### finish -/

theorem finish_frame (v : Via) (kind : Byte) (seq : Nat) (lost : Bool) (a : Answer) (s : State) :
    finish v kind seq lost a s = { s with line := (finish v kind seq lost a s).line, handler := (finish v kind seq lost a s).handler, notices := (finish v kind seq lost a s).notices } := by
  unfold finish
  (repeat' split) <;> (try rw [handOver_frame]) <;> (try rw [dropReply_frame]) <;> rfl

@[simp] theorem finish_table (v : Via) (kind : Byte) (seq : Nat) (lost : Bool) (a : Answer) (s : State) : (finish v kind seq lost a s).table = s.table := by rw [finish_frame]
@[simp] theorem finish_batch (v : Via) (kind : Byte) (seq : Nat) (lost : Bool) (a : Answer) (s : State) : (finish v kind seq lost a s).batch = s.batch := by rw [finish_frame]
@[simp] theorem finish_sup (v : Via) (kind : Byte) (seq : Nat) (lost : Bool) (a : Answer) (s : State) : (finish v kind seq lost a s).sup = s.sup := by rw [finish_frame]
@[simp] theorem finish_clock (v : Via) (kind : Byte) (seq : Nat) (lost : Bool) (a : Answer) (s : State) : (finish v kind seq lost a s).clock = s.clock := by rw [finish_frame]
@[simp] theorem finish_board (v : Via) (kind : Byte) (seq : Nat) (lost : Bool) (a : Answer) (s : State) : (finish v kind seq lost a s).board = s.board := by rw [finish_frame]
@[simp] theorem finish_overlays (v : Via) (kind : Byte) (seq : Nat) (lost : Bool) (a : Answer) (s : State) : (finish v kind seq lost a s).overlays = s.overlays := by rw [finish_frame]
@[simp] theorem finish_phrases (v : Via) (kind : Byte) (seq : Nat) (lost : Bool) (a : Answer) (s : State) : (finish v kind seq lost a s).phrases = s.phrases := by rw [finish_frame]
@[simp] theorem finish_fonts (v : Via) (kind : Byte) (seq : Nat) (lost : Bool) (a : Answer) (s : State) : (finish v kind seq lost a s).fonts = s.fonts := by rw [finish_frame]
@[simp] theorem finish_coder (v : Via) (kind : Byte) (seq : Nat) (lost : Bool) (a : Answer) (s : State) : (finish v kind seq lost a s).coder = s.coder := by rw [finish_frame]
@[simp] theorem finish_chain (v : Via) (kind : Byte) (seq : Nat) (lost : Bool) (a : Answer) (s : State) : (finish v kind seq lost a s).chain = s.chain := by rw [finish_frame]
@[simp] theorem finish_light (v : Via) (kind : Byte) (seq : Nat) (lost : Bool) (a : Answer) (s : State) : (finish v kind seq lost a s).light = s.light := by rw [finish_frame]
@[simp] theorem finish_unit (v : Via) (kind : Byte) (seq : Nat) (lost : Bool) (a : Answer) (s : State) : (finish v kind seq lost a s).unit = s.unit := by rw [finish_frame]
@[simp] theorem finish_tickTaken (v : Via) (kind : Byte) (seq : Nat) (lost : Bool) (a : Answer) (s : State) : (finish v kind seq lost a s).tickTaken = s.tickTaken := by rw [finish_frame]
@[simp] theorem finish_subTaken (v : Via) (kind : Byte) (seq : Nat) (lost : Bool) (a : Answer) (s : State) : (finish v kind seq lost a s).subTaken = s.subTaken := by rw [finish_frame]
@[simp] theorem finish_pending (v : Via) (kind : Byte) (seq : Nat) (lost : Bool) (a : Answer) (s : State) : (finish v kind seq lost a s).pending = s.pending := by rw [finish_frame]

/-! ### recompute -/

theorem recompute_frame (s : State) :
    recompute s = { s with table := (recompute s).table, board := (recompute s).board } := by
  unfold recompute
  (repeat' split) <;> rfl

@[simp] theorem recompute_batch (s : State) : (recompute s).batch = s.batch := by rw [recompute_frame]
@[simp] theorem recompute_sup (s : State) : (recompute s).sup = s.sup := by rw [recompute_frame]
@[simp] theorem recompute_clock (s : State) : (recompute s).clock = s.clock := by rw [recompute_frame]
@[simp] theorem recompute_overlays (s : State) : (recompute s).overlays = s.overlays := by rw [recompute_frame]
@[simp] theorem recompute_phrases (s : State) : (recompute s).phrases = s.phrases := by rw [recompute_frame]
@[simp] theorem recompute_fonts (s : State) : (recompute s).fonts = s.fonts := by rw [recompute_frame]
@[simp] theorem recompute_coder (s : State) : (recompute s).coder = s.coder := by rw [recompute_frame]
@[simp] theorem recompute_chain (s : State) : (recompute s).chain = s.chain := by rw [recompute_frame]
@[simp] theorem recompute_light (s : State) : (recompute s).light = s.light := by rw [recompute_frame]
@[simp] theorem recompute_line (s : State) : (recompute s).line = s.line := by rw [recompute_frame]
@[simp] theorem recompute_handler (s : State) : (recompute s).handler = s.handler := by rw [recompute_frame]
@[simp] theorem recompute_unit (s : State) : (recompute s).unit = s.unit := by rw [recompute_frame]
@[simp] theorem recompute_notices (s : State) : (recompute s).notices = s.notices := by rw [recompute_frame]
@[simp] theorem recompute_tickTaken (s : State) : (recompute s).tickTaken = s.tickTaken := by rw [recompute_frame]
@[simp] theorem recompute_subTaken (s : State) : (recompute s).subTaken = s.subTaken := by rw [recompute_frame]
@[simp] theorem recompute_pending (s : State) : (recompute s).pending = s.pending := by rw [recompute_frame]

/-! ### expire -/

theorem expire_frame (cause : Nat) (s : State) :
    expire cause s = { s with table := (expire cause s).table, sup := (expire cause s).sup, board := (expire cause s).board, notices := (expire cause s).notices } := by
  unfold expire
  rw [recompute_frame]
  rfl

@[simp] theorem expire_batch (cause : Nat) (s : State) : (expire cause s).batch = s.batch := by rw [expire_frame]
@[simp] theorem expire_clock (cause : Nat) (s : State) : (expire cause s).clock = s.clock := by rw [expire_frame]
@[simp] theorem expire_overlays (cause : Nat) (s : State) : (expire cause s).overlays = s.overlays := by rw [expire_frame]
@[simp] theorem expire_phrases (cause : Nat) (s : State) : (expire cause s).phrases = s.phrases := by rw [expire_frame]
@[simp] theorem expire_fonts (cause : Nat) (s : State) : (expire cause s).fonts = s.fonts := by rw [expire_frame]
@[simp] theorem expire_coder (cause : Nat) (s : State) : (expire cause s).coder = s.coder := by rw [expire_frame]
@[simp] theorem expire_chain (cause : Nat) (s : State) : (expire cause s).chain = s.chain := by rw [expire_frame]
@[simp] theorem expire_light (cause : Nat) (s : State) : (expire cause s).light = s.light := by rw [expire_frame]
@[simp] theorem expire_line (cause : Nat) (s : State) : (expire cause s).line = s.line := by rw [expire_frame]
@[simp] theorem expire_handler (cause : Nat) (s : State) : (expire cause s).handler = s.handler := by rw [expire_frame]
@[simp] theorem expire_unit (cause : Nat) (s : State) : (expire cause s).unit = s.unit := by rw [expire_frame]
@[simp] theorem expire_tickTaken (cause : Nat) (s : State) : (expire cause s).tickTaken = s.tickTaken := by rw [expire_frame]
@[simp] theorem expire_subTaken (cause : Nat) (s : State) : (expire cause s).subTaken = s.subTaken := by rw [expire_frame]
@[simp] theorem expire_pending (cause : Nat) (s : State) : (expire cause s).pending = s.pending := by rw [expire_frame]

/-! ### goodClose -/

theorem goodClose_frame (s : State) :
    goodClose s = { s with table := (goodClose s).table, sup := (goodClose s).sup, board := (goodClose s).board, notices := (goodClose s).notices } := by
  unfold goodClose
  (repeat' split) <;> (try rw [recompute_frame]) <;> rfl

@[simp] theorem goodClose_batch (s : State) : (goodClose s).batch = s.batch := by rw [goodClose_frame]
@[simp] theorem goodClose_clock (s : State) : (goodClose s).clock = s.clock := by rw [goodClose_frame]
@[simp] theorem goodClose_overlays (s : State) : (goodClose s).overlays = s.overlays := by rw [goodClose_frame]
@[simp] theorem goodClose_phrases (s : State) : (goodClose s).phrases = s.phrases := by rw [goodClose_frame]
@[simp] theorem goodClose_fonts (s : State) : (goodClose s).fonts = s.fonts := by rw [goodClose_frame]
@[simp] theorem goodClose_coder (s : State) : (goodClose s).coder = s.coder := by rw [goodClose_frame]
@[simp] theorem goodClose_chain (s : State) : (goodClose s).chain = s.chain := by rw [goodClose_frame]
@[simp] theorem goodClose_light (s : State) : (goodClose s).light = s.light := by rw [goodClose_frame]
@[simp] theorem goodClose_line (s : State) : (goodClose s).line = s.line := by rw [goodClose_frame]
@[simp] theorem goodClose_handler (s : State) : (goodClose s).handler = s.handler := by rw [goodClose_frame]
@[simp] theorem goodClose_unit (s : State) : (goodClose s).unit = s.unit := by rw [goodClose_frame]
@[simp] theorem goodClose_tickTaken (s : State) : (goodClose s).tickTaken = s.tickTaken := by rw [goodClose_frame]
@[simp] theorem goodClose_subTaken (s : State) : (goodClose s).subTaken = s.subTaken := by rw [goodClose_frame]
@[simp] theorem goodClose_pending (s : State) : (goodClose s).pending = s.pending := by rw [goodClose_frame]

/-! ### badClose -/

theorem badClose_frame (s : State) :
    badClose s = { s with table := (badClose s).table, sup := (badClose s).sup, board := (badClose s).board, notices := (badClose s).notices } := by
  unfold badClose
  (repeat' split) <;> (try rw [expire_frame]) <;> rfl

@[simp] theorem badClose_batch (s : State) : (badClose s).batch = s.batch := by rw [badClose_frame]
@[simp] theorem badClose_clock (s : State) : (badClose s).clock = s.clock := by rw [badClose_frame]
@[simp] theorem badClose_overlays (s : State) : (badClose s).overlays = s.overlays := by rw [badClose_frame]
@[simp] theorem badClose_phrases (s : State) : (badClose s).phrases = s.phrases := by rw [badClose_frame]
@[simp] theorem badClose_fonts (s : State) : (badClose s).fonts = s.fonts := by rw [badClose_frame]
@[simp] theorem badClose_coder (s : State) : (badClose s).coder = s.coder := by rw [badClose_frame]
@[simp] theorem badClose_chain (s : State) : (badClose s).chain = s.chain := by rw [badClose_frame]
@[simp] theorem badClose_light (s : State) : (badClose s).light = s.light := by rw [badClose_frame]
@[simp] theorem badClose_line (s : State) : (badClose s).line = s.line := by rw [badClose_frame]
@[simp] theorem badClose_handler (s : State) : (badClose s).handler = s.handler := by rw [badClose_frame]
@[simp] theorem badClose_unit (s : State) : (badClose s).unit = s.unit := by rw [badClose_frame]
@[simp] theorem badClose_tickTaken (s : State) : (badClose s).tickTaken = s.tickTaken := by rw [badClose_frame]
@[simp] theorem badClose_subTaken (s : State) : (badClose s).subTaken = s.subTaken := by rw [badClose_frame]
@[simp] theorem badClose_pending (s : State) : (badClose s).pending = s.pending := by rw [badClose_frame]

/-! ### supTick -/

theorem supTick_frame (s : State) :
    supTick s = { s with table := (supTick s).table, sup := (supTick s).sup, board := (supTick s).board, notices := (supTick s).notices } := by
  unfold supTick
  (repeat' split) <;> (try rw [expire_frame]) <;> rfl

@[simp] theorem supTick_batch (s : State) : (supTick s).batch = s.batch := by rw [supTick_frame]
@[simp] theorem supTick_clock (s : State) : (supTick s).clock = s.clock := by rw [supTick_frame]
@[simp] theorem supTick_overlays (s : State) : (supTick s).overlays = s.overlays := by rw [supTick_frame]
@[simp] theorem supTick_phrases (s : State) : (supTick s).phrases = s.phrases := by rw [supTick_frame]
@[simp] theorem supTick_fonts (s : State) : (supTick s).fonts = s.fonts := by rw [supTick_frame]
@[simp] theorem supTick_coder (s : State) : (supTick s).coder = s.coder := by rw [supTick_frame]
@[simp] theorem supTick_chain (s : State) : (supTick s).chain = s.chain := by rw [supTick_frame]
@[simp] theorem supTick_light (s : State) : (supTick s).light = s.light := by rw [supTick_frame]
@[simp] theorem supTick_line (s : State) : (supTick s).line = s.line := by rw [supTick_frame]
@[simp] theorem supTick_handler (s : State) : (supTick s).handler = s.handler := by rw [supTick_frame]
@[simp] theorem supTick_unit (s : State) : (supTick s).unit = s.unit := by rw [supTick_frame]
@[simp] theorem supTick_tickTaken (s : State) : (supTick s).tickTaken = s.tickTaken := by rw [supTick_frame]
@[simp] theorem supTick_subTaken (s : State) : (supTick s).subTaken = s.subTaken := by rw [supTick_frame]
@[simp] theorem supTick_pending (s : State) : (supTick s).pending = s.pending := by rw [supTick_frame]

/-! ### batchTick -/

theorem batchTick_frame (s : State) :
    batchTick s = { s with batch := (batchTick s).batch, notices := (batchTick s).notices } := by
  unfold batchTick
  (repeat' split) <;> rfl

@[simp] theorem batchTick_table (s : State) : (batchTick s).table = s.table := by rw [batchTick_frame]
@[simp] theorem batchTick_sup (s : State) : (batchTick s).sup = s.sup := by rw [batchTick_frame]
@[simp] theorem batchTick_clock (s : State) : (batchTick s).clock = s.clock := by rw [batchTick_frame]
@[simp] theorem batchTick_board (s : State) : (batchTick s).board = s.board := by rw [batchTick_frame]
@[simp] theorem batchTick_overlays (s : State) : (batchTick s).overlays = s.overlays := by rw [batchTick_frame]
@[simp] theorem batchTick_phrases (s : State) : (batchTick s).phrases = s.phrases := by rw [batchTick_frame]
@[simp] theorem batchTick_fonts (s : State) : (batchTick s).fonts = s.fonts := by rw [batchTick_frame]
@[simp] theorem batchTick_coder (s : State) : (batchTick s).coder = s.coder := by rw [batchTick_frame]
@[simp] theorem batchTick_chain (s : State) : (batchTick s).chain = s.chain := by rw [batchTick_frame]
@[simp] theorem batchTick_light (s : State) : (batchTick s).light = s.light := by rw [batchTick_frame]
@[simp] theorem batchTick_line (s : State) : (batchTick s).line = s.line := by rw [batchTick_frame]
@[simp] theorem batchTick_handler (s : State) : (batchTick s).handler = s.handler := by rw [batchTick_frame]
@[simp] theorem batchTick_unit (s : State) : (batchTick s).unit = s.unit := by rw [batchTick_frame]
@[simp] theorem batchTick_tickTaken (s : State) : (batchTick s).tickTaken = s.tickTaken := by rw [batchTick_frame]
@[simp] theorem batchTick_subTaken (s : State) : (batchTick s).subTaken = s.subTaken := by rw [batchTick_frame]
@[simp] theorem batchTick_pending (s : State) : (batchTick s).pending = s.pending := by rw [batchTick_frame]

/-! ### lapse -/

theorem lapse_frame (cause : Nat) (s : State) :
    lapse cause s = { s with table := (lapse cause s).table, clock := (lapse cause s).clock, board := (lapse cause s).board, notices := (lapse cause s).notices } := by
  unfold lapse
  rw [recompute_frame]
  rfl

@[simp] theorem lapse_batch (cause : Nat) (s : State) : (lapse cause s).batch = s.batch := by rw [lapse_frame]
@[simp] theorem lapse_sup (cause : Nat) (s : State) : (lapse cause s).sup = s.sup := by rw [lapse_frame]
@[simp] theorem lapse_overlays (cause : Nat) (s : State) : (lapse cause s).overlays = s.overlays := by rw [lapse_frame]
@[simp] theorem lapse_phrases (cause : Nat) (s : State) : (lapse cause s).phrases = s.phrases := by rw [lapse_frame]
@[simp] theorem lapse_fonts (cause : Nat) (s : State) : (lapse cause s).fonts = s.fonts := by rw [lapse_frame]
@[simp] theorem lapse_coder (cause : Nat) (s : State) : (lapse cause s).coder = s.coder := by rw [lapse_frame]
@[simp] theorem lapse_chain (cause : Nat) (s : State) : (lapse cause s).chain = s.chain := by rw [lapse_frame]
@[simp] theorem lapse_light (cause : Nat) (s : State) : (lapse cause s).light = s.light := by rw [lapse_frame]
@[simp] theorem lapse_line (cause : Nat) (s : State) : (lapse cause s).line = s.line := by rw [lapse_frame]
@[simp] theorem lapse_handler (cause : Nat) (s : State) : (lapse cause s).handler = s.handler := by rw [lapse_frame]
@[simp] theorem lapse_unit (cause : Nat) (s : State) : (lapse cause s).unit = s.unit := by rw [lapse_frame]
@[simp] theorem lapse_tickTaken (cause : Nat) (s : State) : (lapse cause s).tickTaken = s.tickTaken := by rw [lapse_frame]
@[simp] theorem lapse_subTaken (cause : Nat) (s : State) : (lapse cause s).subTaken = s.subTaken := by rw [lapse_frame]
@[simp] theorem lapse_pending (cause : Nat) (s : State) : (lapse cause s).pending = s.pending := by rw [lapse_frame]

/-! ### clockSubTick -/

theorem clockSubTick_frame (p : Bool) (s : State) :
    clockSubTick p s = { s with table := (clockSubTick p s).table, clock := (clockSubTick p s).clock, board := (clockSubTick p s).board, notices := (clockSubTick p s).notices } := by
  simp only [clockSubTick]
  (repeat' split) <;> (try rw [lapse_frame]) <;> rfl

@[simp] theorem clockSubTick_batch (p : Bool) (s : State) : (clockSubTick p s).batch = s.batch := by rw [clockSubTick_frame]
@[simp] theorem clockSubTick_sup (p : Bool) (s : State) : (clockSubTick p s).sup = s.sup := by rw [clockSubTick_frame]
@[simp] theorem clockSubTick_overlays (p : Bool) (s : State) : (clockSubTick p s).overlays = s.overlays := by rw [clockSubTick_frame]
@[simp] theorem clockSubTick_phrases (p : Bool) (s : State) : (clockSubTick p s).phrases = s.phrases := by rw [clockSubTick_frame]
@[simp] theorem clockSubTick_fonts (p : Bool) (s : State) : (clockSubTick p s).fonts = s.fonts := by rw [clockSubTick_frame]
@[simp] theorem clockSubTick_coder (p : Bool) (s : State) : (clockSubTick p s).coder = s.coder := by rw [clockSubTick_frame]
@[simp] theorem clockSubTick_chain (p : Bool) (s : State) : (clockSubTick p s).chain = s.chain := by rw [clockSubTick_frame]
@[simp] theorem clockSubTick_light (p : Bool) (s : State) : (clockSubTick p s).light = s.light := by rw [clockSubTick_frame]
@[simp] theorem clockSubTick_line (p : Bool) (s : State) : (clockSubTick p s).line = s.line := by rw [clockSubTick_frame]
@[simp] theorem clockSubTick_handler (p : Bool) (s : State) : (clockSubTick p s).handler = s.handler := by rw [clockSubTick_frame]
@[simp] theorem clockSubTick_unit (p : Bool) (s : State) : (clockSubTick p s).unit = s.unit := by rw [clockSubTick_frame]
@[simp] theorem clockSubTick_tickTaken (p : Bool) (s : State) : (clockSubTick p s).tickTaken = s.tickTaken := by rw [clockSubTick_frame]
@[simp] theorem clockSubTick_subTaken (p : Bool) (s : State) : (clockSubTick p s).subTaken = s.subTaken := by rw [clockSubTick_frame]
@[simp] theorem clockSubTick_pending (p : Bool) (s : State) : (clockSubTick p s).pending = s.pending := by rw [clockSubTick_frame]

/-! ### clockTick -/

theorem clockTick_frame (s : State) :
    clockTick s = { s with table := (clockTick s).table, clock := (clockTick s).clock, board := (clockTick s).board, notices := (clockTick s).notices } := by
  simp only [clockTick]
  (repeat' split) <;> (try rw [lapse_frame]) <;> rfl

@[simp] theorem clockTick_batch (s : State) : (clockTick s).batch = s.batch := by rw [clockTick_frame]
@[simp] theorem clockTick_sup (s : State) : (clockTick s).sup = s.sup := by rw [clockTick_frame]
@[simp] theorem clockTick_overlays (s : State) : (clockTick s).overlays = s.overlays := by rw [clockTick_frame]
@[simp] theorem clockTick_phrases (s : State) : (clockTick s).phrases = s.phrases := by rw [clockTick_frame]
@[simp] theorem clockTick_fonts (s : State) : (clockTick s).fonts = s.fonts := by rw [clockTick_frame]
@[simp] theorem clockTick_coder (s : State) : (clockTick s).coder = s.coder := by rw [clockTick_frame]
@[simp] theorem clockTick_chain (s : State) : (clockTick s).chain = s.chain := by rw [clockTick_frame]
@[simp] theorem clockTick_light (s : State) : (clockTick s).light = s.light := by rw [clockTick_frame]
@[simp] theorem clockTick_line (s : State) : (clockTick s).line = s.line := by rw [clockTick_frame]
@[simp] theorem clockTick_handler (s : State) : (clockTick s).handler = s.handler := by rw [clockTick_frame]
@[simp] theorem clockTick_unit (s : State) : (clockTick s).unit = s.unit := by rw [clockTick_frame]
@[simp] theorem clockTick_tickTaken (s : State) : (clockTick s).tickTaken = s.tickTaken := by rw [clockTick_frame]
@[simp] theorem clockTick_subTaken (s : State) : (clockTick s).subTaken = s.subTaken := by rw [clockTick_frame]
@[simp] theorem clockTick_pending (s : State) : (clockTick s).pending = s.pending := by rw [clockTick_frame]

/-! ### renderPage -/

theorem renderPage_frame (s : State) :
    renderPage s = { s with board := (renderPage s).board, coder := (renderPage s).coder } := by
  unfold renderPage
  (repeat' split) <;> rfl

@[simp] theorem renderPage_table (s : State) : (renderPage s).table = s.table := by rw [renderPage_frame]
@[simp] theorem renderPage_batch (s : State) : (renderPage s).batch = s.batch := by rw [renderPage_frame]
@[simp] theorem renderPage_sup (s : State) : (renderPage s).sup = s.sup := by rw [renderPage_frame]
@[simp] theorem renderPage_clock (s : State) : (renderPage s).clock = s.clock := by rw [renderPage_frame]
@[simp] theorem renderPage_overlays (s : State) : (renderPage s).overlays = s.overlays := by rw [renderPage_frame]
@[simp] theorem renderPage_phrases (s : State) : (renderPage s).phrases = s.phrases := by rw [renderPage_frame]
@[simp] theorem renderPage_fonts (s : State) : (renderPage s).fonts = s.fonts := by rw [renderPage_frame]
@[simp] theorem renderPage_chain (s : State) : (renderPage s).chain = s.chain := by rw [renderPage_frame]
@[simp] theorem renderPage_light (s : State) : (renderPage s).light = s.light := by rw [renderPage_frame]
@[simp] theorem renderPage_line (s : State) : (renderPage s).line = s.line := by rw [renderPage_frame]
@[simp] theorem renderPage_handler (s : State) : (renderPage s).handler = s.handler := by rw [renderPage_frame]
@[simp] theorem renderPage_unit (s : State) : (renderPage s).unit = s.unit := by rw [renderPage_frame]
@[simp] theorem renderPage_notices (s : State) : (renderPage s).notices = s.notices := by rw [renderPage_frame]
@[simp] theorem renderPage_tickTaken (s : State) : (renderPage s).tickTaken = s.tickTaken := by rw [renderPage_frame]
@[simp] theorem renderPage_subTaken (s : State) : (renderPage s).subTaken = s.subTaken := by rw [renderPage_frame]
@[simp] theorem renderPage_pending (s : State) : (renderPage s).pending = s.pending := by rw [renderPage_frame]

/-! ### performRender -/

theorem performRender_frame (s : State) :
    performRender s = { s with board := (performRender s).board, coder := (performRender s).coder } := by
  unfold performRender
  (repeat' split) <;> (try rw [renderPage_frame]) <;> rfl

@[simp] theorem performRender_table (s : State) : (performRender s).table = s.table := by rw [performRender_frame]
@[simp] theorem performRender_batch (s : State) : (performRender s).batch = s.batch := by rw [performRender_frame]
@[simp] theorem performRender_sup (s : State) : (performRender s).sup = s.sup := by rw [performRender_frame]
@[simp] theorem performRender_clock (s : State) : (performRender s).clock = s.clock := by rw [performRender_frame]
@[simp] theorem performRender_overlays (s : State) : (performRender s).overlays = s.overlays := by rw [performRender_frame]
@[simp] theorem performRender_phrases (s : State) : (performRender s).phrases = s.phrases := by rw [performRender_frame]
@[simp] theorem performRender_fonts (s : State) : (performRender s).fonts = s.fonts := by rw [performRender_frame]
@[simp] theorem performRender_chain (s : State) : (performRender s).chain = s.chain := by rw [performRender_frame]
@[simp] theorem performRender_light (s : State) : (performRender s).light = s.light := by rw [performRender_frame]
@[simp] theorem performRender_line (s : State) : (performRender s).line = s.line := by rw [performRender_frame]
@[simp] theorem performRender_handler (s : State) : (performRender s).handler = s.handler := by rw [performRender_frame]
@[simp] theorem performRender_unit (s : State) : (performRender s).unit = s.unit := by rw [performRender_frame]
@[simp] theorem performRender_notices (s : State) : (performRender s).notices = s.notices := by rw [performRender_frame]
@[simp] theorem performRender_tickTaken (s : State) : (performRender s).tickTaken = s.tickTaken := by rw [performRender_frame]
@[simp] theorem performRender_subTaken (s : State) : (performRender s).subTaken = s.subTaken := by rw [performRender_frame]
@[simp] theorem performRender_pending (s : State) : (performRender s).pending = s.pending := by rw [performRender_frame]

/-! ### requestRender -/

theorem requestRender_frame (s : State) :
    requestRender s = { s with board := (requestRender s).board, coder := (requestRender s).coder } := by
  unfold requestRender
  (repeat' split) <;> (try rw [performRender_frame]) <;> rfl

@[simp] theorem requestRender_table (s : State) : (requestRender s).table = s.table := by rw [requestRender_frame]
@[simp] theorem requestRender_batch (s : State) : (requestRender s).batch = s.batch := by rw [requestRender_frame]
@[simp] theorem requestRender_sup (s : State) : (requestRender s).sup = s.sup := by rw [requestRender_frame]
@[simp] theorem requestRender_clock (s : State) : (requestRender s).clock = s.clock := by rw [requestRender_frame]
@[simp] theorem requestRender_overlays (s : State) : (requestRender s).overlays = s.overlays := by rw [requestRender_frame]
@[simp] theorem requestRender_phrases (s : State) : (requestRender s).phrases = s.phrases := by rw [requestRender_frame]
@[simp] theorem requestRender_fonts (s : State) : (requestRender s).fonts = s.fonts := by rw [requestRender_frame]
@[simp] theorem requestRender_chain (s : State) : (requestRender s).chain = s.chain := by rw [requestRender_frame]
@[simp] theorem requestRender_light (s : State) : (requestRender s).light = s.light := by rw [requestRender_frame]
@[simp] theorem requestRender_line (s : State) : (requestRender s).line = s.line := by rw [requestRender_frame]
@[simp] theorem requestRender_handler (s : State) : (requestRender s).handler = s.handler := by rw [requestRender_frame]
@[simp] theorem requestRender_unit (s : State) : (requestRender s).unit = s.unit := by rw [requestRender_frame]
@[simp] theorem requestRender_notices (s : State) : (requestRender s).notices = s.notices := by rw [requestRender_frame]
@[simp] theorem requestRender_tickTaken (s : State) : (requestRender s).tickTaken = s.tickTaken := by rw [requestRender_frame]
@[simp] theorem requestRender_subTaken (s : State) : (requestRender s).subTaken = s.subTaken := by rw [requestRender_frame]
@[simp] theorem requestRender_pending (s : State) : (requestRender s).pending = s.pending := by rw [requestRender_frame]

/-! ### markBoth -/

theorem markBoth_frame (p : Pos) (s : State) :
    markBoth p s = { s with coder := (markBoth p s).coder } := by
  unfold markBoth
  (repeat' split) <;> rfl

@[simp] theorem markBoth_table (p : Pos) (s : State) : (markBoth p s).table = s.table := by rw [markBoth_frame]
@[simp] theorem markBoth_batch (p : Pos) (s : State) : (markBoth p s).batch = s.batch := by rw [markBoth_frame]
@[simp] theorem markBoth_sup (p : Pos) (s : State) : (markBoth p s).sup = s.sup := by rw [markBoth_frame]
@[simp] theorem markBoth_clock (p : Pos) (s : State) : (markBoth p s).clock = s.clock := by rw [markBoth_frame]
@[simp] theorem markBoth_board (p : Pos) (s : State) : (markBoth p s).board = s.board := by rw [markBoth_frame]
@[simp] theorem markBoth_overlays (p : Pos) (s : State) : (markBoth p s).overlays = s.overlays := by rw [markBoth_frame]
@[simp] theorem markBoth_phrases (p : Pos) (s : State) : (markBoth p s).phrases = s.phrases := by rw [markBoth_frame]
@[simp] theorem markBoth_fonts (p : Pos) (s : State) : (markBoth p s).fonts = s.fonts := by rw [markBoth_frame]
@[simp] theorem markBoth_chain (p : Pos) (s : State) : (markBoth p s).chain = s.chain := by rw [markBoth_frame]
@[simp] theorem markBoth_light (p : Pos) (s : State) : (markBoth p s).light = s.light := by rw [markBoth_frame]
@[simp] theorem markBoth_line (p : Pos) (s : State) : (markBoth p s).line = s.line := by rw [markBoth_frame]
@[simp] theorem markBoth_handler (p : Pos) (s : State) : (markBoth p s).handler = s.handler := by rw [markBoth_frame]
@[simp] theorem markBoth_unit (p : Pos) (s : State) : (markBoth p s).unit = s.unit := by rw [markBoth_frame]
@[simp] theorem markBoth_notices (p : Pos) (s : State) : (markBoth p s).notices = s.notices := by rw [markBoth_frame]
@[simp] theorem markBoth_tickTaken (p : Pos) (s : State) : (markBoth p s).tickTaken = s.tickTaken := by rw [markBoth_frame]
@[simp] theorem markBoth_subTaken (p : Pos) (s : State) : (markBoth p s).subTaken = s.subTaken := by rw [markBoth_frame]
@[simp] theorem markBoth_pending (p : Pos) (s : State) : (markBoth p s).pending = s.pending := by rw [markBoth_frame]

/-! ### sendNext -/

theorem sendNext_frame (rest : List Item) (g : PosSet) (s : State) :
    sendNext rest g s = { s with chain := (sendNext rest g s).chain } := by
  unfold sendNext
  (repeat' split) <;> rfl

@[simp] theorem sendNext_table (rest : List Item) (g : PosSet) (s : State) : (sendNext rest g s).table = s.table := by rw [sendNext_frame]
@[simp] theorem sendNext_batch (rest : List Item) (g : PosSet) (s : State) : (sendNext rest g s).batch = s.batch := by rw [sendNext_frame]
@[simp] theorem sendNext_sup (rest : List Item) (g : PosSet) (s : State) : (sendNext rest g s).sup = s.sup := by rw [sendNext_frame]
@[simp] theorem sendNext_clock (rest : List Item) (g : PosSet) (s : State) : (sendNext rest g s).clock = s.clock := by rw [sendNext_frame]
@[simp] theorem sendNext_board (rest : List Item) (g : PosSet) (s : State) : (sendNext rest g s).board = s.board := by rw [sendNext_frame]
@[simp] theorem sendNext_overlays (rest : List Item) (g : PosSet) (s : State) : (sendNext rest g s).overlays = s.overlays := by rw [sendNext_frame]
@[simp] theorem sendNext_phrases (rest : List Item) (g : PosSet) (s : State) : (sendNext rest g s).phrases = s.phrases := by rw [sendNext_frame]
@[simp] theorem sendNext_fonts (rest : List Item) (g : PosSet) (s : State) : (sendNext rest g s).fonts = s.fonts := by rw [sendNext_frame]
@[simp] theorem sendNext_coder (rest : List Item) (g : PosSet) (s : State) : (sendNext rest g s).coder = s.coder := by rw [sendNext_frame]
@[simp] theorem sendNext_light (rest : List Item) (g : PosSet) (s : State) : (sendNext rest g s).light = s.light := by rw [sendNext_frame]
@[simp] theorem sendNext_line (rest : List Item) (g : PosSet) (s : State) : (sendNext rest g s).line = s.line := by rw [sendNext_frame]
@[simp] theorem sendNext_handler (rest : List Item) (g : PosSet) (s : State) : (sendNext rest g s).handler = s.handler := by rw [sendNext_frame]
@[simp] theorem sendNext_unit (rest : List Item) (g : PosSet) (s : State) : (sendNext rest g s).unit = s.unit := by rw [sendNext_frame]
@[simp] theorem sendNext_notices (rest : List Item) (g : PosSet) (s : State) : (sendNext rest g s).notices = s.notices := by rw [sendNext_frame]
@[simp] theorem sendNext_tickTaken (rest : List Item) (g : PosSet) (s : State) : (sendNext rest g s).tickTaken = s.tickTaken := by rw [sendNext_frame]
@[simp] theorem sendNext_subTaken (rest : List Item) (g : PosSet) (s : State) : (sendNext rest g s).subTaken = s.subTaken := by rw [sendNext_frame]
@[simp] theorem sendNext_pending (rest : List Item) (g : PosSet) (s : State) : (sendNext rest g s).pending = s.pending := by rw [sendNext_frame]

/-! ### beginDelivery -/

theorem beginDelivery_frame (s : State) :
    beginDelivery s = { s with chain := (beginDelivery s).chain } := by
  unfold beginDelivery
  (repeat' split) <;> (try rw [sendNext_frame]) <;> rfl

@[simp] theorem beginDelivery_table (s : State) : (beginDelivery s).table = s.table := by rw [beginDelivery_frame]
@[simp] theorem beginDelivery_batch (s : State) : (beginDelivery s).batch = s.batch := by rw [beginDelivery_frame]
@[simp] theorem beginDelivery_sup (s : State) : (beginDelivery s).sup = s.sup := by rw [beginDelivery_frame]
@[simp] theorem beginDelivery_clock (s : State) : (beginDelivery s).clock = s.clock := by rw [beginDelivery_frame]
@[simp] theorem beginDelivery_board (s : State) : (beginDelivery s).board = s.board := by rw [beginDelivery_frame]
@[simp] theorem beginDelivery_overlays (s : State) : (beginDelivery s).overlays = s.overlays := by rw [beginDelivery_frame]
@[simp] theorem beginDelivery_phrases (s : State) : (beginDelivery s).phrases = s.phrases := by rw [beginDelivery_frame]
@[simp] theorem beginDelivery_fonts (s : State) : (beginDelivery s).fonts = s.fonts := by rw [beginDelivery_frame]
@[simp] theorem beginDelivery_coder (s : State) : (beginDelivery s).coder = s.coder := by rw [beginDelivery_frame]
@[simp] theorem beginDelivery_light (s : State) : (beginDelivery s).light = s.light := by rw [beginDelivery_frame]
@[simp] theorem beginDelivery_line (s : State) : (beginDelivery s).line = s.line := by rw [beginDelivery_frame]
@[simp] theorem beginDelivery_handler (s : State) : (beginDelivery s).handler = s.handler := by rw [beginDelivery_frame]
@[simp] theorem beginDelivery_unit (s : State) : (beginDelivery s).unit = s.unit := by rw [beginDelivery_frame]
@[simp] theorem beginDelivery_notices (s : State) : (beginDelivery s).notices = s.notices := by rw [beginDelivery_frame]
@[simp] theorem beginDelivery_tickTaken (s : State) : (beginDelivery s).tickTaken = s.tickTaken := by rw [beginDelivery_frame]
@[simp] theorem beginDelivery_subTaken (s : State) : (beginDelivery s).subTaken = s.subTaken := by rw [beginDelivery_frame]
@[simp] theorem beginDelivery_pending (s : State) : (beginDelivery s).pending = s.pending := by rw [beginDelivery_frame]

/-! ### completeCoding -/

theorem completeCoding_frame (s : State) :
    completeCoding s = { s with board := (completeCoding s).board, coder := (completeCoding s).coder, chain := (completeCoding s).chain } := by
  simp only [completeCoding]
  (repeat' split) <;> (try rw [beginDelivery_frame]) <;> (try rw [performRender_frame]) <;> rfl

@[simp] theorem completeCoding_table (s : State) : (completeCoding s).table = s.table := by rw [completeCoding_frame]
@[simp] theorem completeCoding_batch (s : State) : (completeCoding s).batch = s.batch := by rw [completeCoding_frame]
@[simp] theorem completeCoding_sup (s : State) : (completeCoding s).sup = s.sup := by rw [completeCoding_frame]
@[simp] theorem completeCoding_clock (s : State) : (completeCoding s).clock = s.clock := by rw [completeCoding_frame]
@[simp] theorem completeCoding_overlays (s : State) : (completeCoding s).overlays = s.overlays := by rw [completeCoding_frame]
@[simp] theorem completeCoding_phrases (s : State) : (completeCoding s).phrases = s.phrases := by rw [completeCoding_frame]
@[simp] theorem completeCoding_fonts (s : State) : (completeCoding s).fonts = s.fonts := by rw [completeCoding_frame]
@[simp] theorem completeCoding_light (s : State) : (completeCoding s).light = s.light := by rw [completeCoding_frame]
@[simp] theorem completeCoding_line (s : State) : (completeCoding s).line = s.line := by rw [completeCoding_frame]
@[simp] theorem completeCoding_handler (s : State) : (completeCoding s).handler = s.handler := by rw [completeCoding_frame]
@[simp] theorem completeCoding_unit (s : State) : (completeCoding s).unit = s.unit := by rw [completeCoding_frame]
@[simp] theorem completeCoding_notices (s : State) : (completeCoding s).notices = s.notices := by rw [completeCoding_frame]
@[simp] theorem completeCoding_tickTaken (s : State) : (completeCoding s).tickTaken = s.tickTaken := by rw [completeCoding_frame]
@[simp] theorem completeCoding_subTaken (s : State) : (completeCoding s).subTaken = s.subTaken := by rw [completeCoding_frame]
@[simp] theorem completeCoding_pending (s : State) : (completeCoding s).pending = s.pending := by rw [completeCoding_frame]

/-! ### startFrame -/

theorem startFrame_frame (s : State) :
    startFrame s = { s with board := (startFrame s).board, coder := (startFrame s).coder, chain := (startFrame s).chain } := by
  simp only [startFrame]
  (repeat' split) <;> (try rw [completeCoding_frame]) <;> rfl

@[simp] theorem startFrame_table (s : State) : (startFrame s).table = s.table := by rw [startFrame_frame]
@[simp] theorem startFrame_batch (s : State) : (startFrame s).batch = s.batch := by rw [startFrame_frame]
@[simp] theorem startFrame_sup (s : State) : (startFrame s).sup = s.sup := by rw [startFrame_frame]
@[simp] theorem startFrame_clock (s : State) : (startFrame s).clock = s.clock := by rw [startFrame_frame]
@[simp] theorem startFrame_overlays (s : State) : (startFrame s).overlays = s.overlays := by rw [startFrame_frame]
@[simp] theorem startFrame_phrases (s : State) : (startFrame s).phrases = s.phrases := by rw [startFrame_frame]
@[simp] theorem startFrame_fonts (s : State) : (startFrame s).fonts = s.fonts := by rw [startFrame_frame]
@[simp] theorem startFrame_light (s : State) : (startFrame s).light = s.light := by rw [startFrame_frame]
@[simp] theorem startFrame_line (s : State) : (startFrame s).line = s.line := by rw [startFrame_frame]
@[simp] theorem startFrame_handler (s : State) : (startFrame s).handler = s.handler := by rw [startFrame_frame]
@[simp] theorem startFrame_unit (s : State) : (startFrame s).unit = s.unit := by rw [startFrame_frame]
@[simp] theorem startFrame_notices (s : State) : (startFrame s).notices = s.notices := by rw [startFrame_frame]
@[simp] theorem startFrame_tickTaken (s : State) : (startFrame s).tickTaken = s.tickTaken := by rw [startFrame_frame]
@[simp] theorem startFrame_subTaken (s : State) : (startFrame s).subTaken = s.subTaken := by rw [startFrame_frame]
@[simp] theorem startFrame_pending (s : State) : (startFrame s).pending = s.pending := by rw [startFrame_frame]

/-! ### settle -/

theorem settle_frame (s : State) :
    settle s = { s with board := (settle s).board, coder := (settle s).coder, chain := (settle s).chain } := by
  unfold settle
  (repeat' split) <;> (try rw [startFrame_frame]) <;> rfl

@[simp] theorem settle_table (s : State) : (settle s).table = s.table := by rw [settle_frame]
@[simp] theorem settle_batch (s : State) : (settle s).batch = s.batch := by rw [settle_frame]
@[simp] theorem settle_sup (s : State) : (settle s).sup = s.sup := by rw [settle_frame]
@[simp] theorem settle_clock (s : State) : (settle s).clock = s.clock := by rw [settle_frame]
@[simp] theorem settle_overlays (s : State) : (settle s).overlays = s.overlays := by rw [settle_frame]
@[simp] theorem settle_phrases (s : State) : (settle s).phrases = s.phrases := by rw [settle_frame]
@[simp] theorem settle_fonts (s : State) : (settle s).fonts = s.fonts := by rw [settle_frame]
@[simp] theorem settle_light (s : State) : (settle s).light = s.light := by rw [settle_frame]
@[simp] theorem settle_line (s : State) : (settle s).line = s.line := by rw [settle_frame]
@[simp] theorem settle_handler (s : State) : (settle s).handler = s.handler := by rw [settle_frame]
@[simp] theorem settle_unit (s : State) : (settle s).unit = s.unit := by rw [settle_frame]
@[simp] theorem settle_notices (s : State) : (settle s).notices = s.notices := by rw [settle_frame]
@[simp] theorem settle_tickTaken (s : State) : (settle s).tickTaken = s.tickTaken := by rw [settle_frame]
@[simp] theorem settle_subTaken (s : State) : (settle s).subTaken = s.subTaken := by rw [settle_frame]
@[simp] theorem settle_pending (s : State) : (settle s).pending = s.pending := by rw [settle_frame]

/-! ### chainDeclare -/

theorem chainDeclare_frame (s : State) :
    chainDeclare s = { s with chain := (chainDeclare s).chain } := by
  simp only [chainDeclare]
  (repeat' split) <;> rfl

@[simp] theorem chainDeclare_table (s : State) : (chainDeclare s).table = s.table := by rw [chainDeclare_frame]
@[simp] theorem chainDeclare_batch (s : State) : (chainDeclare s).batch = s.batch := by rw [chainDeclare_frame]
@[simp] theorem chainDeclare_sup (s : State) : (chainDeclare s).sup = s.sup := by rw [chainDeclare_frame]
@[simp] theorem chainDeclare_clock (s : State) : (chainDeclare s).clock = s.clock := by rw [chainDeclare_frame]
@[simp] theorem chainDeclare_board (s : State) : (chainDeclare s).board = s.board := by rw [chainDeclare_frame]
@[simp] theorem chainDeclare_overlays (s : State) : (chainDeclare s).overlays = s.overlays := by rw [chainDeclare_frame]
@[simp] theorem chainDeclare_phrases (s : State) : (chainDeclare s).phrases = s.phrases := by rw [chainDeclare_frame]
@[simp] theorem chainDeclare_fonts (s : State) : (chainDeclare s).fonts = s.fonts := by rw [chainDeclare_frame]
@[simp] theorem chainDeclare_coder (s : State) : (chainDeclare s).coder = s.coder := by rw [chainDeclare_frame]
@[simp] theorem chainDeclare_light (s : State) : (chainDeclare s).light = s.light := by rw [chainDeclare_frame]
@[simp] theorem chainDeclare_line (s : State) : (chainDeclare s).line = s.line := by rw [chainDeclare_frame]
@[simp] theorem chainDeclare_handler (s : State) : (chainDeclare s).handler = s.handler := by rw [chainDeclare_frame]
@[simp] theorem chainDeclare_unit (s : State) : (chainDeclare s).unit = s.unit := by rw [chainDeclare_frame]
@[simp] theorem chainDeclare_notices (s : State) : (chainDeclare s).notices = s.notices := by rw [chainDeclare_frame]
@[simp] theorem chainDeclare_tickTaken (s : State) : (chainDeclare s).tickTaken = s.tickTaken := by rw [chainDeclare_frame]
@[simp] theorem chainDeclare_subTaken (s : State) : (chainDeclare s).subTaken = s.subTaken := by rw [chainDeclare_frame]
@[simp] theorem chainDeclare_pending (s : State) : (chainDeclare s).pending = s.pending := by rw [chainDeclare_frame]

/-! ### completeEnumeration -/

theorem completeEnumeration_frame (c : Nat) (s : State) :
    completeEnumeration c s = { s with board := (completeEnumeration c s).board, chain := (completeEnumeration c s).chain, notices := (completeEnumeration c s).notices } := by
  unfold completeEnumeration
  (repeat' split) <;> rfl

@[simp] theorem completeEnumeration_table (c : Nat) (s : State) : (completeEnumeration c s).table = s.table := by rw [completeEnumeration_frame]
@[simp] theorem completeEnumeration_batch (c : Nat) (s : State) : (completeEnumeration c s).batch = s.batch := by rw [completeEnumeration_frame]
@[simp] theorem completeEnumeration_sup (c : Nat) (s : State) : (completeEnumeration c s).sup = s.sup := by rw [completeEnumeration_frame]
@[simp] theorem completeEnumeration_clock (c : Nat) (s : State) : (completeEnumeration c s).clock = s.clock := by rw [completeEnumeration_frame]
@[simp] theorem completeEnumeration_overlays (c : Nat) (s : State) : (completeEnumeration c s).overlays = s.overlays := by rw [completeEnumeration_frame]
@[simp] theorem completeEnumeration_phrases (c : Nat) (s : State) : (completeEnumeration c s).phrases = s.phrases := by rw [completeEnumeration_frame]
@[simp] theorem completeEnumeration_fonts (c : Nat) (s : State) : (completeEnumeration c s).fonts = s.fonts := by rw [completeEnumeration_frame]
@[simp] theorem completeEnumeration_coder (c : Nat) (s : State) : (completeEnumeration c s).coder = s.coder := by rw [completeEnumeration_frame]
@[simp] theorem completeEnumeration_light (c : Nat) (s : State) : (completeEnumeration c s).light = s.light := by rw [completeEnumeration_frame]
@[simp] theorem completeEnumeration_line (c : Nat) (s : State) : (completeEnumeration c s).line = s.line := by rw [completeEnumeration_frame]
@[simp] theorem completeEnumeration_handler (c : Nat) (s : State) : (completeEnumeration c s).handler = s.handler := by rw [completeEnumeration_frame]
@[simp] theorem completeEnumeration_unit (c : Nat) (s : State) : (completeEnumeration c s).unit = s.unit := by rw [completeEnumeration_frame]
@[simp] theorem completeEnumeration_tickTaken (c : Nat) (s : State) : (completeEnumeration c s).tickTaken = s.tickTaken := by rw [completeEnumeration_frame]
@[simp] theorem completeEnumeration_subTaken (c : Nat) (s : State) : (completeEnumeration c s).subTaken = s.subTaken := by rw [completeEnumeration_frame]
@[simp] theorem completeEnumeration_pending (c : Nat) (s : State) : (completeEnumeration c s).pending = s.pending := by rw [completeEnumeration_frame]

/-! ### probeNext -/

theorem probeNext_frame (rest : List Pos) (s : State) :
    probeNext rest s = { s with chain := (probeNext rest s).chain } := by
  unfold probeNext
  (repeat' split) <;> rfl

@[simp] theorem probeNext_table (rest : List Pos) (s : State) : (probeNext rest s).table = s.table := by rw [probeNext_frame]
@[simp] theorem probeNext_batch (rest : List Pos) (s : State) : (probeNext rest s).batch = s.batch := by rw [probeNext_frame]
@[simp] theorem probeNext_sup (rest : List Pos) (s : State) : (probeNext rest s).sup = s.sup := by rw [probeNext_frame]
@[simp] theorem probeNext_clock (rest : List Pos) (s : State) : (probeNext rest s).clock = s.clock := by rw [probeNext_frame]
@[simp] theorem probeNext_board (rest : List Pos) (s : State) : (probeNext rest s).board = s.board := by rw [probeNext_frame]
@[simp] theorem probeNext_overlays (rest : List Pos) (s : State) : (probeNext rest s).overlays = s.overlays := by rw [probeNext_frame]
@[simp] theorem probeNext_phrases (rest : List Pos) (s : State) : (probeNext rest s).phrases = s.phrases := by rw [probeNext_frame]
@[simp] theorem probeNext_fonts (rest : List Pos) (s : State) : (probeNext rest s).fonts = s.fonts := by rw [probeNext_frame]
@[simp] theorem probeNext_coder (rest : List Pos) (s : State) : (probeNext rest s).coder = s.coder := by rw [probeNext_frame]
@[simp] theorem probeNext_light (rest : List Pos) (s : State) : (probeNext rest s).light = s.light := by rw [probeNext_frame]
@[simp] theorem probeNext_line (rest : List Pos) (s : State) : (probeNext rest s).line = s.line := by rw [probeNext_frame]
@[simp] theorem probeNext_handler (rest : List Pos) (s : State) : (probeNext rest s).handler = s.handler := by rw [probeNext_frame]
@[simp] theorem probeNext_unit (rest : List Pos) (s : State) : (probeNext rest s).unit = s.unit := by rw [probeNext_frame]
@[simp] theorem probeNext_notices (rest : List Pos) (s : State) : (probeNext rest s).notices = s.notices := by rw [probeNext_frame]
@[simp] theorem probeNext_tickTaken (rest : List Pos) (s : State) : (probeNext rest s).tickTaken = s.tickTaken := by rw [probeNext_frame]
@[simp] theorem probeNext_subTaken (rest : List Pos) (s : State) : (probeNext rest s).subTaken = s.subTaken := by rw [probeNext_frame]
@[simp] theorem probeNext_pending (rest : List Pos) (s : State) : (probeNext rest s).pending = s.pending := by rw [probeNext_frame]

/-! ### beginRound -/

theorem beginRound_frame (s : State) :
    beginRound s = { s with chain := (beginRound s).chain } := by
  unfold beginRound
  rw [probeNext_frame]

@[simp] theorem beginRound_table (s : State) : (beginRound s).table = s.table := by rw [beginRound_frame]
@[simp] theorem beginRound_batch (s : State) : (beginRound s).batch = s.batch := by rw [beginRound_frame]
@[simp] theorem beginRound_sup (s : State) : (beginRound s).sup = s.sup := by rw [beginRound_frame]
@[simp] theorem beginRound_clock (s : State) : (beginRound s).clock = s.clock := by rw [beginRound_frame]
@[simp] theorem beginRound_board (s : State) : (beginRound s).board = s.board := by rw [beginRound_frame]
@[simp] theorem beginRound_overlays (s : State) : (beginRound s).overlays = s.overlays := by rw [beginRound_frame]
@[simp] theorem beginRound_phrases (s : State) : (beginRound s).phrases = s.phrases := by rw [beginRound_frame]
@[simp] theorem beginRound_fonts (s : State) : (beginRound s).fonts = s.fonts := by rw [beginRound_frame]
@[simp] theorem beginRound_coder (s : State) : (beginRound s).coder = s.coder := by rw [beginRound_frame]
@[simp] theorem beginRound_light (s : State) : (beginRound s).light = s.light := by rw [beginRound_frame]
@[simp] theorem beginRound_line (s : State) : (beginRound s).line = s.line := by rw [beginRound_frame]
@[simp] theorem beginRound_handler (s : State) : (beginRound s).handler = s.handler := by rw [beginRound_frame]
@[simp] theorem beginRound_unit (s : State) : (beginRound s).unit = s.unit := by rw [beginRound_frame]
@[simp] theorem beginRound_notices (s : State) : (beginRound s).notices = s.notices := by rw [beginRound_frame]
@[simp] theorem beginRound_tickTaken (s : State) : (beginRound s).tickTaken = s.tickTaken := by rw [beginRound_frame]
@[simp] theorem beginRound_subTaken (s : State) : (beginRound s).subTaken = s.subTaken := by rw [beginRound_frame]
@[simp] theorem beginRound_pending (s : State) : (beginRound s).pending = s.pending := by rw [beginRound_frame]

/-! ### chainTick -/

theorem chainTick_frame (s : State) :
    chainTick s = { s with chain := (chainTick s).chain } := by
  simp only [chainTick]
  (repeat' split) <;> (try rw [beginRound_frame]) <;> rfl

@[simp] theorem chainTick_table (s : State) : (chainTick s).table = s.table := by rw [chainTick_frame]
@[simp] theorem chainTick_batch (s : State) : (chainTick s).batch = s.batch := by rw [chainTick_frame]
@[simp] theorem chainTick_sup (s : State) : (chainTick s).sup = s.sup := by rw [chainTick_frame]
@[simp] theorem chainTick_clock (s : State) : (chainTick s).clock = s.clock := by rw [chainTick_frame]
@[simp] theorem chainTick_board (s : State) : (chainTick s).board = s.board := by rw [chainTick_frame]
@[simp] theorem chainTick_overlays (s : State) : (chainTick s).overlays = s.overlays := by rw [chainTick_frame]
@[simp] theorem chainTick_phrases (s : State) : (chainTick s).phrases = s.phrases := by rw [chainTick_frame]
@[simp] theorem chainTick_fonts (s : State) : (chainTick s).fonts = s.fonts := by rw [chainTick_frame]
@[simp] theorem chainTick_coder (s : State) : (chainTick s).coder = s.coder := by rw [chainTick_frame]
@[simp] theorem chainTick_light (s : State) : (chainTick s).light = s.light := by rw [chainTick_frame]
@[simp] theorem chainTick_line (s : State) : (chainTick s).line = s.line := by rw [chainTick_frame]
@[simp] theorem chainTick_handler (s : State) : (chainTick s).handler = s.handler := by rw [chainTick_frame]
@[simp] theorem chainTick_unit (s : State) : (chainTick s).unit = s.unit := by rw [chainTick_frame]
@[simp] theorem chainTick_notices (s : State) : (chainTick s).notices = s.notices := by rw [chainTick_frame]
@[simp] theorem chainTick_tickTaken (s : State) : (chainTick s).tickTaken = s.tickTaken := by rw [chainTick_frame]
@[simp] theorem chainTick_subTaken (s : State) : (chainTick s).subTaken = s.subTaken := by rw [chainTick_frame]
@[simp] theorem chainTick_pending (s : State) : (chainTick s).pending = s.pending := by rw [chainTick_frame]

/-! ### giveUp -/

theorem giveUp_frame (p : Pos) (s : State) :
    giveUp p s = { s with coder := (giveUp p s).coder, chain := (giveUp p s).chain, notices := (giveUp p s).notices } := by
  simp only [giveUp]
  (repeat' split) <;> (try rw [markBoth_frame]) <;> rfl

@[simp] theorem giveUp_table (p : Pos) (s : State) : (giveUp p s).table = s.table := by rw [giveUp_frame]
@[simp] theorem giveUp_batch (p : Pos) (s : State) : (giveUp p s).batch = s.batch := by rw [giveUp_frame]
@[simp] theorem giveUp_sup (p : Pos) (s : State) : (giveUp p s).sup = s.sup := by rw [giveUp_frame]
@[simp] theorem giveUp_clock (p : Pos) (s : State) : (giveUp p s).clock = s.clock := by rw [giveUp_frame]
@[simp] theorem giveUp_board (p : Pos) (s : State) : (giveUp p s).board = s.board := by rw [giveUp_frame]
@[simp] theorem giveUp_overlays (p : Pos) (s : State) : (giveUp p s).overlays = s.overlays := by rw [giveUp_frame]
@[simp] theorem giveUp_phrases (p : Pos) (s : State) : (giveUp p s).phrases = s.phrases := by rw [giveUp_frame]
@[simp] theorem giveUp_fonts (p : Pos) (s : State) : (giveUp p s).fonts = s.fonts := by rw [giveUp_frame]
@[simp] theorem giveUp_light (p : Pos) (s : State) : (giveUp p s).light = s.light := by rw [giveUp_frame]
@[simp] theorem giveUp_line (p : Pos) (s : State) : (giveUp p s).line = s.line := by rw [giveUp_frame]
@[simp] theorem giveUp_handler (p : Pos) (s : State) : (giveUp p s).handler = s.handler := by rw [giveUp_frame]
@[simp] theorem giveUp_unit (p : Pos) (s : State) : (giveUp p s).unit = s.unit := by rw [giveUp_frame]
@[simp] theorem giveUp_tickTaken (p : Pos) (s : State) : (giveUp p s).tickTaken = s.tickTaken := by rw [giveUp_frame]
@[simp] theorem giveUp_subTaken (p : Pos) (s : State) : (giveUp p s).subTaken = s.subTaken := by rw [giveUp_frame]
@[simp] theorem giveUp_pending (p : Pos) (s : State) : (giveUp p s).pending = s.pending := by rw [giveUp_frame]

/-! ### frameAck -/

theorem frameAck_frame (o : Outstanding) (rest : List Item) (g : PosSet) (s : State) :
    frameAck o rest g s = { s with chain := (frameAck o rest g s).chain } := by
  simp only [frameAck]
  (repeat' split) <;> (try rw [sendNext_frame]) <;> rfl

@[simp] theorem frameAck_table (o : Outstanding) (rest : List Item) (g : PosSet) (s : State) : (frameAck o rest g s).table = s.table := by rw [frameAck_frame]
@[simp] theorem frameAck_batch (o : Outstanding) (rest : List Item) (g : PosSet) (s : State) : (frameAck o rest g s).batch = s.batch := by rw [frameAck_frame]
@[simp] theorem frameAck_sup (o : Outstanding) (rest : List Item) (g : PosSet) (s : State) : (frameAck o rest g s).sup = s.sup := by rw [frameAck_frame]
@[simp] theorem frameAck_clock (o : Outstanding) (rest : List Item) (g : PosSet) (s : State) : (frameAck o rest g s).clock = s.clock := by rw [frameAck_frame]
@[simp] theorem frameAck_board (o : Outstanding) (rest : List Item) (g : PosSet) (s : State) : (frameAck o rest g s).board = s.board := by rw [frameAck_frame]
@[simp] theorem frameAck_overlays (o : Outstanding) (rest : List Item) (g : PosSet) (s : State) : (frameAck o rest g s).overlays = s.overlays := by rw [frameAck_frame]
@[simp] theorem frameAck_phrases (o : Outstanding) (rest : List Item) (g : PosSet) (s : State) : (frameAck o rest g s).phrases = s.phrases := by rw [frameAck_frame]
@[simp] theorem frameAck_fonts (o : Outstanding) (rest : List Item) (g : PosSet) (s : State) : (frameAck o rest g s).fonts = s.fonts := by rw [frameAck_frame]
@[simp] theorem frameAck_coder (o : Outstanding) (rest : List Item) (g : PosSet) (s : State) : (frameAck o rest g s).coder = s.coder := by rw [frameAck_frame]
@[simp] theorem frameAck_light (o : Outstanding) (rest : List Item) (g : PosSet) (s : State) : (frameAck o rest g s).light = s.light := by rw [frameAck_frame]
@[simp] theorem frameAck_line (o : Outstanding) (rest : List Item) (g : PosSet) (s : State) : (frameAck o rest g s).line = s.line := by rw [frameAck_frame]
@[simp] theorem frameAck_handler (o : Outstanding) (rest : List Item) (g : PosSet) (s : State) : (frameAck o rest g s).handler = s.handler := by rw [frameAck_frame]
@[simp] theorem frameAck_unit (o : Outstanding) (rest : List Item) (g : PosSet) (s : State) : (frameAck o rest g s).unit = s.unit := by rw [frameAck_frame]
@[simp] theorem frameAck_notices (o : Outstanding) (rest : List Item) (g : PosSet) (s : State) : (frameAck o rest g s).notices = s.notices := by rw [frameAck_frame]
@[simp] theorem frameAck_tickTaken (o : Outstanding) (rest : List Item) (g : PosSet) (s : State) : (frameAck o rest g s).tickTaken = s.tickTaken := by rw [frameAck_frame]
@[simp] theorem frameAck_subTaken (o : Outstanding) (rest : List Item) (g : PosSet) (s : State) : (frameAck o rest g s).subTaken = s.subTaken := by rw [frameAck_frame]
@[simp] theorem frameAck_pending (o : Outstanding) (rest : List Item) (g : PosSet) (s : State) : (frameAck o rest g s).pending = s.pending := by rw [frameAck_frame]

/-! ### frameFail -/

theorem frameFail_frame (o : Outstanding) (rest : List Item) (g : PosSet) (s : State) :
    frameFail o rest g s = { s with coder := (frameFail o rest g s).coder, chain := (frameFail o rest g s).chain, notices := (frameFail o rest g s).notices } := by
  simp only [frameFail]
  (repeat' split) <;> (try rw [sendNext_frame]) <;> (try rw [giveUp_frame]) <;> rfl

@[simp] theorem frameFail_table (o : Outstanding) (rest : List Item) (g : PosSet) (s : State) : (frameFail o rest g s).table = s.table := by rw [frameFail_frame]
@[simp] theorem frameFail_batch (o : Outstanding) (rest : List Item) (g : PosSet) (s : State) : (frameFail o rest g s).batch = s.batch := by rw [frameFail_frame]
@[simp] theorem frameFail_sup (o : Outstanding) (rest : List Item) (g : PosSet) (s : State) : (frameFail o rest g s).sup = s.sup := by rw [frameFail_frame]
@[simp] theorem frameFail_clock (o : Outstanding) (rest : List Item) (g : PosSet) (s : State) : (frameFail o rest g s).clock = s.clock := by rw [frameFail_frame]
@[simp] theorem frameFail_board (o : Outstanding) (rest : List Item) (g : PosSet) (s : State) : (frameFail o rest g s).board = s.board := by rw [frameFail_frame]
@[simp] theorem frameFail_overlays (o : Outstanding) (rest : List Item) (g : PosSet) (s : State) : (frameFail o rest g s).overlays = s.overlays := by rw [frameFail_frame]
@[simp] theorem frameFail_phrases (o : Outstanding) (rest : List Item) (g : PosSet) (s : State) : (frameFail o rest g s).phrases = s.phrases := by rw [frameFail_frame]
@[simp] theorem frameFail_fonts (o : Outstanding) (rest : List Item) (g : PosSet) (s : State) : (frameFail o rest g s).fonts = s.fonts := by rw [frameFail_frame]
@[simp] theorem frameFail_light (o : Outstanding) (rest : List Item) (g : PosSet) (s : State) : (frameFail o rest g s).light = s.light := by rw [frameFail_frame]
@[simp] theorem frameFail_line (o : Outstanding) (rest : List Item) (g : PosSet) (s : State) : (frameFail o rest g s).line = s.line := by rw [frameFail_frame]
@[simp] theorem frameFail_handler (o : Outstanding) (rest : List Item) (g : PosSet) (s : State) : (frameFail o rest g s).handler = s.handler := by rw [frameFail_frame]
@[simp] theorem frameFail_unit (o : Outstanding) (rest : List Item) (g : PosSet) (s : State) : (frameFail o rest g s).unit = s.unit := by rw [frameFail_frame]
@[simp] theorem frameFail_tickTaken (o : Outstanding) (rest : List Item) (g : PosSet) (s : State) : (frameFail o rest g s).tickTaken = s.tickTaken := by rw [frameFail_frame]
@[simp] theorem frameFail_subTaken (o : Outstanding) (rest : List Item) (g : PosSet) (s : State) : (frameFail o rest g s).subTaken = s.subTaken := by rw [frameFail_frame]
@[simp] theorem frameFail_pending (o : Outstanding) (rest : List Item) (g : PosSet) (s : State) : (frameFail o rest g s).pending = s.pending := by rw [frameFail_frame]

/-! ### recover -/

theorem recover_frame (p : Pos) (s : State) :
    recover p s = { s with coder := (recover p s).coder, chain := (recover p s).chain, notices := (recover p s).notices } := by
  unfold recover
  rw [markBoth_frame]
  rfl

@[simp] theorem recover_table (p : Pos) (s : State) : (recover p s).table = s.table := by rw [recover_frame]
@[simp] theorem recover_batch (p : Pos) (s : State) : (recover p s).batch = s.batch := by rw [recover_frame]
@[simp] theorem recover_sup (p : Pos) (s : State) : (recover p s).sup = s.sup := by rw [recover_frame]
@[simp] theorem recover_clock (p : Pos) (s : State) : (recover p s).clock = s.clock := by rw [recover_frame]
@[simp] theorem recover_board (p : Pos) (s : State) : (recover p s).board = s.board := by rw [recover_frame]
@[simp] theorem recover_overlays (p : Pos) (s : State) : (recover p s).overlays = s.overlays := by rw [recover_frame]
@[simp] theorem recover_phrases (p : Pos) (s : State) : (recover p s).phrases = s.phrases := by rw [recover_frame]
@[simp] theorem recover_fonts (p : Pos) (s : State) : (recover p s).fonts = s.fonts := by rw [recover_frame]
@[simp] theorem recover_light (p : Pos) (s : State) : (recover p s).light = s.light := by rw [recover_frame]
@[simp] theorem recover_line (p : Pos) (s : State) : (recover p s).line = s.line := by rw [recover_frame]
@[simp] theorem recover_handler (p : Pos) (s : State) : (recover p s).handler = s.handler := by rw [recover_frame]
@[simp] theorem recover_unit (p : Pos) (s : State) : (recover p s).unit = s.unit := by rw [recover_frame]
@[simp] theorem recover_tickTaken (p : Pos) (s : State) : (recover p s).tickTaken = s.tickTaken := by rw [recover_frame]
@[simp] theorem recover_subTaken (p : Pos) (s : State) : (recover p s).subTaken = s.subTaken := by rw [recover_frame]
@[simp] theorem recover_pending (p : Pos) (s : State) : (recover p s).pending = s.pending := by rw [recover_frame]

/-! ### pageStep -/

theorem pageStep_frame (s : State) :
    pageStep s = { s with board := (pageStep s).board } := by
  unfold pageStep
  (repeat' split) <;> rfl

@[simp] theorem pageStep_table (s : State) : (pageStep s).table = s.table := by rw [pageStep_frame]
@[simp] theorem pageStep_batch (s : State) : (pageStep s).batch = s.batch := by rw [pageStep_frame]
@[simp] theorem pageStep_sup (s : State) : (pageStep s).sup = s.sup := by rw [pageStep_frame]
@[simp] theorem pageStep_clock (s : State) : (pageStep s).clock = s.clock := by rw [pageStep_frame]
@[simp] theorem pageStep_overlays (s : State) : (pageStep s).overlays = s.overlays := by rw [pageStep_frame]
@[simp] theorem pageStep_phrases (s : State) : (pageStep s).phrases = s.phrases := by rw [pageStep_frame]
@[simp] theorem pageStep_fonts (s : State) : (pageStep s).fonts = s.fonts := by rw [pageStep_frame]
@[simp] theorem pageStep_coder (s : State) : (pageStep s).coder = s.coder := by rw [pageStep_frame]
@[simp] theorem pageStep_chain (s : State) : (pageStep s).chain = s.chain := by rw [pageStep_frame]
@[simp] theorem pageStep_light (s : State) : (pageStep s).light = s.light := by rw [pageStep_frame]
@[simp] theorem pageStep_line (s : State) : (pageStep s).line = s.line := by rw [pageStep_frame]
@[simp] theorem pageStep_handler (s : State) : (pageStep s).handler = s.handler := by rw [pageStep_frame]
@[simp] theorem pageStep_unit (s : State) : (pageStep s).unit = s.unit := by rw [pageStep_frame]
@[simp] theorem pageStep_notices (s : State) : (pageStep s).notices = s.notices := by rw [pageStep_frame]
@[simp] theorem pageStep_tickTaken (s : State) : (pageStep s).tickTaken = s.tickTaken := by rw [pageStep_frame]
@[simp] theorem pageStep_subTaken (s : State) : (pageStep s).subTaken = s.subTaken := by rw [pageStep_frame]
@[simp] theorem pageStep_pending (s : State) : (pageStep s).pending = s.pending := by rw [pageStep_frame]

/-! ### buildPage -/

theorem buildPage_frame (s : State) :
    buildPage s = { s with board := (buildPage s).board } := by
  unfold buildPage
  (repeat' split) <;> rfl

@[simp] theorem buildPage_table (s : State) : (buildPage s).table = s.table := by rw [buildPage_frame]
@[simp] theorem buildPage_batch (s : State) : (buildPage s).batch = s.batch := by rw [buildPage_frame]
@[simp] theorem buildPage_sup (s : State) : (buildPage s).sup = s.sup := by rw [buildPage_frame]
@[simp] theorem buildPage_clock (s : State) : (buildPage s).clock = s.clock := by rw [buildPage_frame]
@[simp] theorem buildPage_overlays (s : State) : (buildPage s).overlays = s.overlays := by rw [buildPage_frame]
@[simp] theorem buildPage_phrases (s : State) : (buildPage s).phrases = s.phrases := by rw [buildPage_frame]
@[simp] theorem buildPage_fonts (s : State) : (buildPage s).fonts = s.fonts := by rw [buildPage_frame]
@[simp] theorem buildPage_coder (s : State) : (buildPage s).coder = s.coder := by rw [buildPage_frame]
@[simp] theorem buildPage_chain (s : State) : (buildPage s).chain = s.chain := by rw [buildPage_frame]
@[simp] theorem buildPage_light (s : State) : (buildPage s).light = s.light := by rw [buildPage_frame]
@[simp] theorem buildPage_line (s : State) : (buildPage s).line = s.line := by rw [buildPage_frame]
@[simp] theorem buildPage_handler (s : State) : (buildPage s).handler = s.handler := by rw [buildPage_frame]
@[simp] theorem buildPage_unit (s : State) : (buildPage s).unit = s.unit := by rw [buildPage_frame]
@[simp] theorem buildPage_notices (s : State) : (buildPage s).notices = s.notices := by rw [buildPage_frame]
@[simp] theorem buildPage_tickTaken (s : State) : (buildPage s).tickTaken = s.tickTaken := by rw [buildPage_frame]
@[simp] theorem buildPage_subTaken (s : State) : (buildPage s).subTaken = s.subTaken := by rw [buildPage_frame]
@[simp] theorem buildPage_pending (s : State) : (buildPage s).pending = s.pending := by rw [buildPage_frame]

/-! ### composerTick -/

theorem composerTick_frame (s : State) :
    composerTick s = { s with table := (composerTick s).table, board := (composerTick s).board, coder := (composerTick s).coder, chain := (composerTick s).chain } := by
  unfold composerTick
  (repeat' split) <;> (try rw [settle_frame]) <;> (try rw [requestRender_frame]) <;> (try rw [buildPage_frame]) <;> (try rw [pageStep_frame]) <;> rfl

@[simp] theorem composerTick_batch (s : State) : (composerTick s).batch = s.batch := by rw [composerTick_frame]
@[simp] theorem composerTick_sup (s : State) : (composerTick s).sup = s.sup := by rw [composerTick_frame]
@[simp] theorem composerTick_clock (s : State) : (composerTick s).clock = s.clock := by rw [composerTick_frame]
@[simp] theorem composerTick_overlays (s : State) : (composerTick s).overlays = s.overlays := by rw [composerTick_frame]
@[simp] theorem composerTick_phrases (s : State) : (composerTick s).phrases = s.phrases := by rw [composerTick_frame]
@[simp] theorem composerTick_fonts (s : State) : (composerTick s).fonts = s.fonts := by rw [composerTick_frame]
@[simp] theorem composerTick_light (s : State) : (composerTick s).light = s.light := by rw [composerTick_frame]
@[simp] theorem composerTick_line (s : State) : (composerTick s).line = s.line := by rw [composerTick_frame]
@[simp] theorem composerTick_handler (s : State) : (composerTick s).handler = s.handler := by rw [composerTick_frame]
@[simp] theorem composerTick_unit (s : State) : (composerTick s).unit = s.unit := by rw [composerTick_frame]
@[simp] theorem composerTick_notices (s : State) : (composerTick s).notices = s.notices := by rw [composerTick_frame]
@[simp] theorem composerTick_tickTaken (s : State) : (composerTick s).tickTaken = s.tickTaken := by rw [composerTick_frame]
@[simp] theorem composerTick_subTaken (s : State) : (composerTick s).subTaken = s.subTaken := by rw [composerTick_frame]
@[simp] theorem composerTick_pending (s : State) : (composerTick s).pending = s.pending := by rw [composerTick_frame]

/-! ### placePanel -/

theorem placePanel_frame (p : Pos) (g : Placement) (s : State) :
    placePanel p g s = { s with board := (placePanel p g s).board, coder := (placePanel p g s).coder, chain := (placePanel p g s).chain } := by
  simp only [placePanel]
  (repeat' split) <;> (try rw [settle_frame]) <;> (try rw [requestRender_frame]) <;> (try rw [markBoth_frame]) <;> rfl

@[simp] theorem placePanel_table (p : Pos) (g : Placement) (s : State) : (placePanel p g s).table = s.table := by rw [placePanel_frame]
@[simp] theorem placePanel_batch (p : Pos) (g : Placement) (s : State) : (placePanel p g s).batch = s.batch := by rw [placePanel_frame]
@[simp] theorem placePanel_sup (p : Pos) (g : Placement) (s : State) : (placePanel p g s).sup = s.sup := by rw [placePanel_frame]
@[simp] theorem placePanel_clock (p : Pos) (g : Placement) (s : State) : (placePanel p g s).clock = s.clock := by rw [placePanel_frame]
@[simp] theorem placePanel_overlays (p : Pos) (g : Placement) (s : State) : (placePanel p g s).overlays = s.overlays := by rw [placePanel_frame]
@[simp] theorem placePanel_phrases (p : Pos) (g : Placement) (s : State) : (placePanel p g s).phrases = s.phrases := by rw [placePanel_frame]
@[simp] theorem placePanel_fonts (p : Pos) (g : Placement) (s : State) : (placePanel p g s).fonts = s.fonts := by rw [placePanel_frame]
@[simp] theorem placePanel_light (p : Pos) (g : Placement) (s : State) : (placePanel p g s).light = s.light := by rw [placePanel_frame]
@[simp] theorem placePanel_line (p : Pos) (g : Placement) (s : State) : (placePanel p g s).line = s.line := by rw [placePanel_frame]
@[simp] theorem placePanel_handler (p : Pos) (g : Placement) (s : State) : (placePanel p g s).handler = s.handler := by rw [placePanel_frame]
@[simp] theorem placePanel_unit (p : Pos) (g : Placement) (s : State) : (placePanel p g s).unit = s.unit := by rw [placePanel_frame]
@[simp] theorem placePanel_notices (p : Pos) (g : Placement) (s : State) : (placePanel p g s).notices = s.notices := by rw [placePanel_frame]
@[simp] theorem placePanel_tickTaken (p : Pos) (g : Placement) (s : State) : (placePanel p g s).tickTaken = s.tickTaken := by rw [placePanel_frame]
@[simp] theorem placePanel_subTaken (p : Pos) (g : Placement) (s : State) : (placePanel p g s).subTaken = s.subTaken := by rw [placePanel_frame]
@[simp] theorem placePanel_pending (p : Pos) (g : Placement) (s : State) : (placePanel p g s).pending = s.pending := by rw [placePanel_frame]

/-! ### enterMode -/

theorem enterMode_frame (m : BoardMode) (s : State) :
    enterMode m s = { s with board := (enterMode m s).board, coder := (enterMode m s).coder } := by
  simp only [enterMode]
  (repeat' split) <;> (try rw [requestRender_frame]) <;> rfl

@[simp] theorem enterMode_table (m : BoardMode) (s : State) : (enterMode m s).table = s.table := by rw [enterMode_frame]
@[simp] theorem enterMode_batch (m : BoardMode) (s : State) : (enterMode m s).batch = s.batch := by rw [enterMode_frame]
@[simp] theorem enterMode_sup (m : BoardMode) (s : State) : (enterMode m s).sup = s.sup := by rw [enterMode_frame]
@[simp] theorem enterMode_clock (m : BoardMode) (s : State) : (enterMode m s).clock = s.clock := by rw [enterMode_frame]
@[simp] theorem enterMode_overlays (m : BoardMode) (s : State) : (enterMode m s).overlays = s.overlays := by rw [enterMode_frame]
@[simp] theorem enterMode_phrases (m : BoardMode) (s : State) : (enterMode m s).phrases = s.phrases := by rw [enterMode_frame]
@[simp] theorem enterMode_fonts (m : BoardMode) (s : State) : (enterMode m s).fonts = s.fonts := by rw [enterMode_frame]
@[simp] theorem enterMode_chain (m : BoardMode) (s : State) : (enterMode m s).chain = s.chain := by rw [enterMode_frame]
@[simp] theorem enterMode_light (m : BoardMode) (s : State) : (enterMode m s).light = s.light := by rw [enterMode_frame]
@[simp] theorem enterMode_line (m : BoardMode) (s : State) : (enterMode m s).line = s.line := by rw [enterMode_frame]
@[simp] theorem enterMode_handler (m : BoardMode) (s : State) : (enterMode m s).handler = s.handler := by rw [enterMode_frame]
@[simp] theorem enterMode_unit (m : BoardMode) (s : State) : (enterMode m s).unit = s.unit := by rw [enterMode_frame]
@[simp] theorem enterMode_notices (m : BoardMode) (s : State) : (enterMode m s).notices = s.notices := by rw [enterMode_frame]
@[simp] theorem enterMode_tickTaken (m : BoardMode) (s : State) : (enterMode m s).tickTaken = s.tickTaken := by rw [enterMode_frame]
@[simp] theorem enterMode_subTaken (m : BoardMode) (s : State) : (enterMode m s).subTaken = s.subTaken := by rw [enterMode_frame]
@[simp] theorem enterMode_pending (m : BoardMode) (s : State) : (enterMode m s).pending = s.pending := by rw [enterMode_frame]

/-! ### tableTick -/

theorem tableTick_frame (s : State) :
    tableTick s = { s with table := (tableTick s).table } := by
  unfold tableTick
  (repeat' split) <;> rfl

@[simp] theorem tableTick_batch (s : State) : (tableTick s).batch = s.batch := by rw [tableTick_frame]
@[simp] theorem tableTick_sup (s : State) : (tableTick s).sup = s.sup := by rw [tableTick_frame]
@[simp] theorem tableTick_clock (s : State) : (tableTick s).clock = s.clock := by rw [tableTick_frame]
@[simp] theorem tableTick_board (s : State) : (tableTick s).board = s.board := by rw [tableTick_frame]
@[simp] theorem tableTick_overlays (s : State) : (tableTick s).overlays = s.overlays := by rw [tableTick_frame]
@[simp] theorem tableTick_phrases (s : State) : (tableTick s).phrases = s.phrases := by rw [tableTick_frame]
@[simp] theorem tableTick_fonts (s : State) : (tableTick s).fonts = s.fonts := by rw [tableTick_frame]
@[simp] theorem tableTick_coder (s : State) : (tableTick s).coder = s.coder := by rw [tableTick_frame]
@[simp] theorem tableTick_chain (s : State) : (tableTick s).chain = s.chain := by rw [tableTick_frame]
@[simp] theorem tableTick_light (s : State) : (tableTick s).light = s.light := by rw [tableTick_frame]
@[simp] theorem tableTick_line (s : State) : (tableTick s).line = s.line := by rw [tableTick_frame]
@[simp] theorem tableTick_handler (s : State) : (tableTick s).handler = s.handler := by rw [tableTick_frame]
@[simp] theorem tableTick_unit (s : State) : (tableTick s).unit = s.unit := by rw [tableTick_frame]
@[simp] theorem tableTick_notices (s : State) : (tableTick s).notices = s.notices := by rw [tableTick_frame]
@[simp] theorem tableTick_tickTaken (s : State) : (tableTick s).tickTaken = s.tickTaken := by rw [tableTick_frame]
@[simp] theorem tableTick_subTaken (s : State) : (tableTick s).subTaken = s.subTaken := by rw [tableTick_frame]
@[simp] theorem tableTick_pending (s : State) : (tableTick s).pending = s.pending := by rw [tableTick_frame]

/-! ### overlayRender -/

theorem overlayRender_frame (s : State) :
    overlayRender s = { s with board := (overlayRender s).board, coder := (overlayRender s).coder, chain := (overlayRender s).chain } := by
  unfold overlayRender
  (repeat' split) <;> (try rw [settle_frame]) <;> (try rw [requestRender_frame]) <;> rfl

@[simp] theorem overlayRender_table (s : State) : (overlayRender s).table = s.table := by rw [overlayRender_frame]
@[simp] theorem overlayRender_batch (s : State) : (overlayRender s).batch = s.batch := by rw [overlayRender_frame]
@[simp] theorem overlayRender_sup (s : State) : (overlayRender s).sup = s.sup := by rw [overlayRender_frame]
@[simp] theorem overlayRender_clock (s : State) : (overlayRender s).clock = s.clock := by rw [overlayRender_frame]
@[simp] theorem overlayRender_overlays (s : State) : (overlayRender s).overlays = s.overlays := by rw [overlayRender_frame]
@[simp] theorem overlayRender_phrases (s : State) : (overlayRender s).phrases = s.phrases := by rw [overlayRender_frame]
@[simp] theorem overlayRender_fonts (s : State) : (overlayRender s).fonts = s.fonts := by rw [overlayRender_frame]
@[simp] theorem overlayRender_light (s : State) : (overlayRender s).light = s.light := by rw [overlayRender_frame]
@[simp] theorem overlayRender_line (s : State) : (overlayRender s).line = s.line := by rw [overlayRender_frame]
@[simp] theorem overlayRender_handler (s : State) : (overlayRender s).handler = s.handler := by rw [overlayRender_frame]
@[simp] theorem overlayRender_unit (s : State) : (overlayRender s).unit = s.unit := by rw [overlayRender_frame]
@[simp] theorem overlayRender_notices (s : State) : (overlayRender s).notices = s.notices := by rw [overlayRender_frame]
@[simp] theorem overlayRender_tickTaken (s : State) : (overlayRender s).tickTaken = s.tickTaken := by rw [overlayRender_frame]
@[simp] theorem overlayRender_subTaken (s : State) : (overlayRender s).subTaken = s.subTaken := by rw [overlayRender_frame]
@[simp] theorem overlayRender_pending (s : State) : (overlayRender s).pending = s.pending := by rw [overlayRender_frame]

/-! ### clearOverlays -/

theorem clearOverlays_frame (s : State) :
    clearOverlays s = { s with board := (clearOverlays s).board, overlays := (clearOverlays s).overlays, coder := (clearOverlays s).coder, chain := (clearOverlays s).chain } := by
  unfold clearOverlays
  rw [overlayRender_frame]
  rfl

@[simp] theorem clearOverlays_table (s : State) : (clearOverlays s).table = s.table := by rw [clearOverlays_frame]
@[simp] theorem clearOverlays_batch (s : State) : (clearOverlays s).batch = s.batch := by rw [clearOverlays_frame]
@[simp] theorem clearOverlays_sup (s : State) : (clearOverlays s).sup = s.sup := by rw [clearOverlays_frame]
@[simp] theorem clearOverlays_clock (s : State) : (clearOverlays s).clock = s.clock := by rw [clearOverlays_frame]
@[simp] theorem clearOverlays_phrases (s : State) : (clearOverlays s).phrases = s.phrases := by rw [clearOverlays_frame]
@[simp] theorem clearOverlays_fonts (s : State) : (clearOverlays s).fonts = s.fonts := by rw [clearOverlays_frame]
@[simp] theorem clearOverlays_light (s : State) : (clearOverlays s).light = s.light := by rw [clearOverlays_frame]
@[simp] theorem clearOverlays_line (s : State) : (clearOverlays s).line = s.line := by rw [clearOverlays_frame]
@[simp] theorem clearOverlays_handler (s : State) : (clearOverlays s).handler = s.handler := by rw [clearOverlays_frame]
@[simp] theorem clearOverlays_unit (s : State) : (clearOverlays s).unit = s.unit := by rw [clearOverlays_frame]
@[simp] theorem clearOverlays_notices (s : State) : (clearOverlays s).notices = s.notices := by rw [clearOverlays_frame]
@[simp] theorem clearOverlays_tickTaken (s : State) : (clearOverlays s).tickTaken = s.tickTaken := by rw [clearOverlays_frame]
@[simp] theorem clearOverlays_subTaken (s : State) : (clearOverlays s).subTaken = s.subTaken := by rw [clearOverlays_frame]
@[simp] theorem clearOverlays_pending (s : State) : (clearOverlays s).pending = s.pending := by rw [clearOverlays_frame]

/-! ### overlayTick -/

theorem overlayTick_frame (s : State) :
    overlayTick s = { s with board := (overlayTick s).board, overlays := (overlayTick s).overlays, coder := (overlayTick s).coder, chain := (overlayTick s).chain, notices := (overlayTick s).notices } := by
  simp only [overlayTick]
  (repeat' split) <;> (try rw [overlayRender_frame]) <;> (try rw [offerAll_frame]) <;> rfl

@[simp] theorem overlayTick_table (s : State) : (overlayTick s).table = s.table := by rw [overlayTick_frame]
@[simp] theorem overlayTick_batch (s : State) : (overlayTick s).batch = s.batch := by rw [overlayTick_frame]
@[simp] theorem overlayTick_sup (s : State) : (overlayTick s).sup = s.sup := by rw [overlayTick_frame]
@[simp] theorem overlayTick_clock (s : State) : (overlayTick s).clock = s.clock := by rw [overlayTick_frame]
@[simp] theorem overlayTick_phrases (s : State) : (overlayTick s).phrases = s.phrases := by rw [overlayTick_frame]
@[simp] theorem overlayTick_fonts (s : State) : (overlayTick s).fonts = s.fonts := by rw [overlayTick_frame]
@[simp] theorem overlayTick_light (s : State) : (overlayTick s).light = s.light := by rw [overlayTick_frame]
@[simp] theorem overlayTick_line (s : State) : (overlayTick s).line = s.line := by rw [overlayTick_frame]
@[simp] theorem overlayTick_handler (s : State) : (overlayTick s).handler = s.handler := by rw [overlayTick_frame]
@[simp] theorem overlayTick_unit (s : State) : (overlayTick s).unit = s.unit := by rw [overlayTick_frame]
@[simp] theorem overlayTick_tickTaken (s : State) : (overlayTick s).tickTaken = s.tickTaken := by rw [overlayTick_frame]
@[simp] theorem overlayTick_subTaken (s : State) : (overlayTick s).subTaken = s.subTaken := by rw [overlayTick_frame]
@[simp] theorem overlayTick_pending (s : State) : (overlayTick s).pending = s.pending := by rw [overlayTick_frame]

/-! ### overlaySubTick -/

theorem overlaySubTick_frame (s : State) :
    overlaySubTick s = { s with board := (overlaySubTick s).board, overlays := (overlaySubTick s).overlays, coder := (overlaySubTick s).coder, chain := (overlaySubTick s).chain } := by
  simp only [overlaySubTick]
  (repeat' split) <;> (try rw [overlayRender_frame]) <;> rfl

@[simp] theorem overlaySubTick_table (s : State) : (overlaySubTick s).table = s.table := by rw [overlaySubTick_frame]
@[simp] theorem overlaySubTick_batch (s : State) : (overlaySubTick s).batch = s.batch := by rw [overlaySubTick_frame]
@[simp] theorem overlaySubTick_sup (s : State) : (overlaySubTick s).sup = s.sup := by rw [overlaySubTick_frame]
@[simp] theorem overlaySubTick_clock (s : State) : (overlaySubTick s).clock = s.clock := by rw [overlaySubTick_frame]
@[simp] theorem overlaySubTick_phrases (s : State) : (overlaySubTick s).phrases = s.phrases := by rw [overlaySubTick_frame]
@[simp] theorem overlaySubTick_fonts (s : State) : (overlaySubTick s).fonts = s.fonts := by rw [overlaySubTick_frame]
@[simp] theorem overlaySubTick_light (s : State) : (overlaySubTick s).light = s.light := by rw [overlaySubTick_frame]
@[simp] theorem overlaySubTick_line (s : State) : (overlaySubTick s).line = s.line := by rw [overlaySubTick_frame]
@[simp] theorem overlaySubTick_handler (s : State) : (overlaySubTick s).handler = s.handler := by rw [overlaySubTick_frame]
@[simp] theorem overlaySubTick_unit (s : State) : (overlaySubTick s).unit = s.unit := by rw [overlaySubTick_frame]
@[simp] theorem overlaySubTick_notices (s : State) : (overlaySubTick s).notices = s.notices := by rw [overlaySubTick_frame]
@[simp] theorem overlaySubTick_tickTaken (s : State) : (overlaySubTick s).tickTaken = s.tickTaken := by rw [overlaySubTick_frame]
@[simp] theorem overlaySubTick_subTaken (s : State) : (overlaySubTick s).subTaken = s.subTaken := by rw [overlaySubTick_frame]
@[simp] theorem overlaySubTick_pending (s : State) : (overlaySubTick s).pending = s.pending := by rw [overlaySubTick_frame]

/-! ### handBrightness -/

theorem handBrightness_frame (b : Nat) (s : State) :
    handBrightness b s = { s with board := (handBrightness b s).board, coder := (handBrightness b s).coder, chain := (handBrightness b s).chain } := by
  unfold handBrightness
  (repeat' split) <;> (try rw [settle_frame]) <;> rfl

@[simp] theorem handBrightness_table (b : Nat) (s : State) : (handBrightness b s).table = s.table := by rw [handBrightness_frame]
@[simp] theorem handBrightness_batch (b : Nat) (s : State) : (handBrightness b s).batch = s.batch := by rw [handBrightness_frame]
@[simp] theorem handBrightness_sup (b : Nat) (s : State) : (handBrightness b s).sup = s.sup := by rw [handBrightness_frame]
@[simp] theorem handBrightness_clock (b : Nat) (s : State) : (handBrightness b s).clock = s.clock := by rw [handBrightness_frame]
@[simp] theorem handBrightness_overlays (b : Nat) (s : State) : (handBrightness b s).overlays = s.overlays := by rw [handBrightness_frame]
@[simp] theorem handBrightness_phrases (b : Nat) (s : State) : (handBrightness b s).phrases = s.phrases := by rw [handBrightness_frame]
@[simp] theorem handBrightness_fonts (b : Nat) (s : State) : (handBrightness b s).fonts = s.fonts := by rw [handBrightness_frame]
@[simp] theorem handBrightness_light (b : Nat) (s : State) : (handBrightness b s).light = s.light := by rw [handBrightness_frame]
@[simp] theorem handBrightness_line (b : Nat) (s : State) : (handBrightness b s).line = s.line := by rw [handBrightness_frame]
@[simp] theorem handBrightness_handler (b : Nat) (s : State) : (handBrightness b s).handler = s.handler := by rw [handBrightness_frame]
@[simp] theorem handBrightness_unit (b : Nat) (s : State) : (handBrightness b s).unit = s.unit := by rw [handBrightness_frame]
@[simp] theorem handBrightness_notices (b : Nat) (s : State) : (handBrightness b s).notices = s.notices := by rw [handBrightness_frame]
@[simp] theorem handBrightness_tickTaken (b : Nat) (s : State) : (handBrightness b s).tickTaken = s.tickTaken := by rw [handBrightness_frame]
@[simp] theorem handBrightness_subTaken (b : Nat) (s : State) : (handBrightness b s).subTaken = s.subTaken := by rw [handBrightness_frame]
@[simp] theorem handBrightness_pending (b : Nat) (s : State) : (handBrightness b s).pending = s.pending := by rw [handBrightness_frame]

/-! ### windowEnd -/

theorem windowEnd_frame (s : State) :
    windowEnd s = { s with board := (windowEnd s).board, coder := (windowEnd s).coder, chain := (windowEnd s).chain, light := (windowEnd s).light, notices := (windowEnd s).notices } := by
  unfold windowEnd
  rw [handBrightness_frame]
  rw [offerAll_frame]
  rfl

@[simp] theorem windowEnd_table (s : State) : (windowEnd s).table = s.table := by rw [windowEnd_frame]
@[simp] theorem windowEnd_batch (s : State) : (windowEnd s).batch = s.batch := by rw [windowEnd_frame]
@[simp] theorem windowEnd_sup (s : State) : (windowEnd s).sup = s.sup := by rw [windowEnd_frame]
@[simp] theorem windowEnd_clock (s : State) : (windowEnd s).clock = s.clock := by rw [windowEnd_frame]
@[simp] theorem windowEnd_overlays (s : State) : (windowEnd s).overlays = s.overlays := by rw [windowEnd_frame]
@[simp] theorem windowEnd_phrases (s : State) : (windowEnd s).phrases = s.phrases := by rw [windowEnd_frame]
@[simp] theorem windowEnd_fonts (s : State) : (windowEnd s).fonts = s.fonts := by rw [windowEnd_frame]
@[simp] theorem windowEnd_line (s : State) : (windowEnd s).line = s.line := by rw [windowEnd_frame]
@[simp] theorem windowEnd_handler (s : State) : (windowEnd s).handler = s.handler := by rw [windowEnd_frame]
@[simp] theorem windowEnd_unit (s : State) : (windowEnd s).unit = s.unit := by rw [windowEnd_frame]
@[simp] theorem windowEnd_tickTaken (s : State) : (windowEnd s).tickTaken = s.tickTaken := by rw [windowEnd_frame]
@[simp] theorem windowEnd_subTaken (s : State) : (windowEnd s).subTaken = s.subTaken := by rw [windowEnd_frame]
@[simp] theorem windowEnd_pending (s : State) : (windowEnd s).pending = s.pending := by rw [windowEnd_frame]

/-! ### overrun -/

theorem overrun_frame (f : Slot) (s : State) :
    overrun f s = { s with line := (overrun f s).line, handler := (overrun f s).handler, notices := (overrun f s).notices } := by
  simp only [overrun]
  (repeat' split) <;> (try rw [handOver_frame]) <;> rfl

@[simp] theorem overrun_table (f : Slot) (s : State) : (overrun f s).table = s.table := by rw [overrun_frame]
@[simp] theorem overrun_batch (f : Slot) (s : State) : (overrun f s).batch = s.batch := by rw [overrun_frame]
@[simp] theorem overrun_sup (f : Slot) (s : State) : (overrun f s).sup = s.sup := by rw [overrun_frame]
@[simp] theorem overrun_clock (f : Slot) (s : State) : (overrun f s).clock = s.clock := by rw [overrun_frame]
@[simp] theorem overrun_board (f : Slot) (s : State) : (overrun f s).board = s.board := by rw [overrun_frame]
@[simp] theorem overrun_overlays (f : Slot) (s : State) : (overrun f s).overlays = s.overlays := by rw [overrun_frame]
@[simp] theorem overrun_phrases (f : Slot) (s : State) : (overrun f s).phrases = s.phrases := by rw [overrun_frame]
@[simp] theorem overrun_fonts (f : Slot) (s : State) : (overrun f s).fonts = s.fonts := by rw [overrun_frame]
@[simp] theorem overrun_coder (f : Slot) (s : State) : (overrun f s).coder = s.coder := by rw [overrun_frame]
@[simp] theorem overrun_chain (f : Slot) (s : State) : (overrun f s).chain = s.chain := by rw [overrun_frame]
@[simp] theorem overrun_light (f : Slot) (s : State) : (overrun f s).light = s.light := by rw [overrun_frame]
@[simp] theorem overrun_unit (f : Slot) (s : State) : (overrun f s).unit = s.unit := by rw [overrun_frame]
@[simp] theorem overrun_tickTaken (f : Slot) (s : State) : (overrun f s).tickTaken = s.tickTaken := by rw [overrun_frame]
@[simp] theorem overrun_subTaken (f : Slot) (s : State) : (overrun f s).subTaken = s.subTaken := by rw [overrun_frame]
@[simp] theorem overrun_pending (f : Slot) (s : State) : (overrun f s).pending = s.pending := by rw [overrun_frame]

/-! ### storeFrame -/

theorem storeFrame_frame (f : Slot) (s : State) :
    storeFrame f s = { s with line := (storeFrame f s).line, handler := (storeFrame f s).handler, notices := (storeFrame f s).notices } := by
  unfold storeFrame
  (repeat' split) <;> (try rw [overrun_frame]) <;> rfl

@[simp] theorem storeFrame_table (f : Slot) (s : State) : (storeFrame f s).table = s.table := by rw [storeFrame_frame]
@[simp] theorem storeFrame_batch (f : Slot) (s : State) : (storeFrame f s).batch = s.batch := by rw [storeFrame_frame]
@[simp] theorem storeFrame_sup (f : Slot) (s : State) : (storeFrame f s).sup = s.sup := by rw [storeFrame_frame]
@[simp] theorem storeFrame_clock (f : Slot) (s : State) : (storeFrame f s).clock = s.clock := by rw [storeFrame_frame]
@[simp] theorem storeFrame_board (f : Slot) (s : State) : (storeFrame f s).board = s.board := by rw [storeFrame_frame]
@[simp] theorem storeFrame_overlays (f : Slot) (s : State) : (storeFrame f s).overlays = s.overlays := by rw [storeFrame_frame]
@[simp] theorem storeFrame_phrases (f : Slot) (s : State) : (storeFrame f s).phrases = s.phrases := by rw [storeFrame_frame]
@[simp] theorem storeFrame_fonts (f : Slot) (s : State) : (storeFrame f s).fonts = s.fonts := by rw [storeFrame_frame]
@[simp] theorem storeFrame_coder (f : Slot) (s : State) : (storeFrame f s).coder = s.coder := by rw [storeFrame_frame]
@[simp] theorem storeFrame_chain (f : Slot) (s : State) : (storeFrame f s).chain = s.chain := by rw [storeFrame_frame]
@[simp] theorem storeFrame_light (f : Slot) (s : State) : (storeFrame f s).light = s.light := by rw [storeFrame_frame]
@[simp] theorem storeFrame_unit (f : Slot) (s : State) : (storeFrame f s).unit = s.unit := by rw [storeFrame_frame]
@[simp] theorem storeFrame_tickTaken (f : Slot) (s : State) : (storeFrame f s).tickTaken = s.tickTaken := by rw [storeFrame_frame]
@[simp] theorem storeFrame_subTaken (f : Slot) (s : State) : (storeFrame f s).subTaken = s.subTaken := by rw [storeFrame_frame]
@[simp] theorem storeFrame_pending (f : Slot) (s : State) : (storeFrame f s).pending = s.pending := by rw [storeFrame_frame]

/-! ### judgeFrame -/

theorem judgeFrame_frame (g : Gathered) (s : State) :
    judgeFrame g s = { s with line := (judgeFrame g s).line, handler := (judgeFrame g s).handler, notices := (judgeFrame g s).notices } := by
  unfold judgeFrame
  (repeat' split) <;> (try rw [storeFrame_frame]) <;> rfl

@[simp] theorem judgeFrame_table (g : Gathered) (s : State) : (judgeFrame g s).table = s.table := by rw [judgeFrame_frame]
@[simp] theorem judgeFrame_batch (g : Gathered) (s : State) : (judgeFrame g s).batch = s.batch := by rw [judgeFrame_frame]
@[simp] theorem judgeFrame_sup (g : Gathered) (s : State) : (judgeFrame g s).sup = s.sup := by rw [judgeFrame_frame]
@[simp] theorem judgeFrame_clock (g : Gathered) (s : State) : (judgeFrame g s).clock = s.clock := by rw [judgeFrame_frame]
@[simp] theorem judgeFrame_board (g : Gathered) (s : State) : (judgeFrame g s).board = s.board := by rw [judgeFrame_frame]
@[simp] theorem judgeFrame_overlays (g : Gathered) (s : State) : (judgeFrame g s).overlays = s.overlays := by rw [judgeFrame_frame]
@[simp] theorem judgeFrame_phrases (g : Gathered) (s : State) : (judgeFrame g s).phrases = s.phrases := by rw [judgeFrame_frame]
@[simp] theorem judgeFrame_fonts (g : Gathered) (s : State) : (judgeFrame g s).fonts = s.fonts := by rw [judgeFrame_frame]
@[simp] theorem judgeFrame_coder (g : Gathered) (s : State) : (judgeFrame g s).coder = s.coder := by rw [judgeFrame_frame]
@[simp] theorem judgeFrame_chain (g : Gathered) (s : State) : (judgeFrame g s).chain = s.chain := by rw [judgeFrame_frame]
@[simp] theorem judgeFrame_light (g : Gathered) (s : State) : (judgeFrame g s).light = s.light := by rw [judgeFrame_frame]
@[simp] theorem judgeFrame_unit (g : Gathered) (s : State) : (judgeFrame g s).unit = s.unit := by rw [judgeFrame_frame]
@[simp] theorem judgeFrame_tickTaken (g : Gathered) (s : State) : (judgeFrame g s).tickTaken = s.tickTaken := by rw [judgeFrame_frame]
@[simp] theorem judgeFrame_subTaken (g : Gathered) (s : State) : (judgeFrame g s).subTaken = s.subTaken := by rw [judgeFrame_frame]
@[simp] theorem judgeFrame_pending (g : Gathered) (s : State) : (judgeFrame g s).pending = s.pending := by rw [judgeFrame_frame]

/-! ### gather -/

theorem gather_frame (b : Byte) (got : List Byte) (s : State) :
    gather b got s = { s with line := (gather b got s).line, handler := (gather b got s).handler, notices := (gather b got s).notices } := by
  simp only [gather]
  (repeat' split) <;> (try rw [judgeFrame_frame]) <;> rfl

@[simp] theorem gather_table (b : Byte) (got : List Byte) (s : State) : (gather b got s).table = s.table := by rw [gather_frame]
@[simp] theorem gather_batch (b : Byte) (got : List Byte) (s : State) : (gather b got s).batch = s.batch := by rw [gather_frame]
@[simp] theorem gather_sup (b : Byte) (got : List Byte) (s : State) : (gather b got s).sup = s.sup := by rw [gather_frame]
@[simp] theorem gather_clock (b : Byte) (got : List Byte) (s : State) : (gather b got s).clock = s.clock := by rw [gather_frame]
@[simp] theorem gather_board (b : Byte) (got : List Byte) (s : State) : (gather b got s).board = s.board := by rw [gather_frame]
@[simp] theorem gather_overlays (b : Byte) (got : List Byte) (s : State) : (gather b got s).overlays = s.overlays := by rw [gather_frame]
@[simp] theorem gather_phrases (b : Byte) (got : List Byte) (s : State) : (gather b got s).phrases = s.phrases := by rw [gather_frame]
@[simp] theorem gather_fonts (b : Byte) (got : List Byte) (s : State) : (gather b got s).fonts = s.fonts := by rw [gather_frame]
@[simp] theorem gather_coder (b : Byte) (got : List Byte) (s : State) : (gather b got s).coder = s.coder := by rw [gather_frame]
@[simp] theorem gather_chain (b : Byte) (got : List Byte) (s : State) : (gather b got s).chain = s.chain := by rw [gather_frame]
@[simp] theorem gather_light (b : Byte) (got : List Byte) (s : State) : (gather b got s).light = s.light := by rw [gather_frame]
@[simp] theorem gather_unit (b : Byte) (got : List Byte) (s : State) : (gather b got s).unit = s.unit := by rw [gather_frame]
@[simp] theorem gather_tickTaken (b : Byte) (got : List Byte) (s : State) : (gather b got s).tickTaken = s.tickTaken := by rw [gather_frame]
@[simp] theorem gather_subTaken (b : Byte) (got : List Byte) (s : State) : (gather b got s).subTaken = s.subTaken := by rw [gather_frame]
@[simp] theorem gather_pending (b : Byte) (got : List Byte) (s : State) : (gather b got s).pending = s.pending := by rw [gather_frame]

/-! ### takeCharacter -/

theorem takeCharacter_frame (b : Byte) (p q : Bool) (s : State) :
    takeCharacter b p q s = { s with line := (takeCharacter b p q s).line, handler := (takeCharacter b p q s).handler, notices := (takeCharacter b p q s).notices } := by
  simp only [takeCharacter]
  (repeat' split) <;> (try rw [gather_frame]) <;> rfl

@[simp] theorem takeCharacter_table (b : Byte) (p q : Bool) (s : State) : (takeCharacter b p q s).table = s.table := by rw [takeCharacter_frame]
@[simp] theorem takeCharacter_batch (b : Byte) (p q : Bool) (s : State) : (takeCharacter b p q s).batch = s.batch := by rw [takeCharacter_frame]
@[simp] theorem takeCharacter_sup (b : Byte) (p q : Bool) (s : State) : (takeCharacter b p q s).sup = s.sup := by rw [takeCharacter_frame]
@[simp] theorem takeCharacter_clock (b : Byte) (p q : Bool) (s : State) : (takeCharacter b p q s).clock = s.clock := by rw [takeCharacter_frame]
@[simp] theorem takeCharacter_board (b : Byte) (p q : Bool) (s : State) : (takeCharacter b p q s).board = s.board := by rw [takeCharacter_frame]
@[simp] theorem takeCharacter_overlays (b : Byte) (p q : Bool) (s : State) : (takeCharacter b p q s).overlays = s.overlays := by rw [takeCharacter_frame]
@[simp] theorem takeCharacter_phrases (b : Byte) (p q : Bool) (s : State) : (takeCharacter b p q s).phrases = s.phrases := by rw [takeCharacter_frame]
@[simp] theorem takeCharacter_fonts (b : Byte) (p q : Bool) (s : State) : (takeCharacter b p q s).fonts = s.fonts := by rw [takeCharacter_frame]
@[simp] theorem takeCharacter_coder (b : Byte) (p q : Bool) (s : State) : (takeCharacter b p q s).coder = s.coder := by rw [takeCharacter_frame]
@[simp] theorem takeCharacter_chain (b : Byte) (p q : Bool) (s : State) : (takeCharacter b p q s).chain = s.chain := by rw [takeCharacter_frame]
@[simp] theorem takeCharacter_light (b : Byte) (p q : Bool) (s : State) : (takeCharacter b p q s).light = s.light := by rw [takeCharacter_frame]
@[simp] theorem takeCharacter_unit (b : Byte) (p q : Bool) (s : State) : (takeCharacter b p q s).unit = s.unit := by rw [takeCharacter_frame]
@[simp] theorem takeCharacter_tickTaken (b : Byte) (p q : Bool) (s : State) : (takeCharacter b p q s).tickTaken = s.tickTaken := by rw [takeCharacter_frame]
@[simp] theorem takeCharacter_subTaken (b : Byte) (p q : Bool) (s : State) : (takeCharacter b p q s).subTaken = s.subTaken := by rw [takeCharacter_frame]
@[simp] theorem takeCharacter_pending (b : Byte) (p q : Bool) (s : State) : (takeCharacter b p q s).pending = s.pending := by rw [takeCharacter_frame]

/-! ### beginBreak -/

theorem beginBreak_frame (s : State) :
    beginBreak s = { s with line := (beginBreak s).line } := by
  unfold beginBreak
  (repeat' split) <;> rfl

@[simp] theorem beginBreak_table (s : State) : (beginBreak s).table = s.table := by rw [beginBreak_frame]
@[simp] theorem beginBreak_batch (s : State) : (beginBreak s).batch = s.batch := by rw [beginBreak_frame]
@[simp] theorem beginBreak_sup (s : State) : (beginBreak s).sup = s.sup := by rw [beginBreak_frame]
@[simp] theorem beginBreak_clock (s : State) : (beginBreak s).clock = s.clock := by rw [beginBreak_frame]
@[simp] theorem beginBreak_board (s : State) : (beginBreak s).board = s.board := by rw [beginBreak_frame]
@[simp] theorem beginBreak_overlays (s : State) : (beginBreak s).overlays = s.overlays := by rw [beginBreak_frame]
@[simp] theorem beginBreak_phrases (s : State) : (beginBreak s).phrases = s.phrases := by rw [beginBreak_frame]
@[simp] theorem beginBreak_fonts (s : State) : (beginBreak s).fonts = s.fonts := by rw [beginBreak_frame]
@[simp] theorem beginBreak_coder (s : State) : (beginBreak s).coder = s.coder := by rw [beginBreak_frame]
@[simp] theorem beginBreak_chain (s : State) : (beginBreak s).chain = s.chain := by rw [beginBreak_frame]
@[simp] theorem beginBreak_light (s : State) : (beginBreak s).light = s.light := by rw [beginBreak_frame]
@[simp] theorem beginBreak_handler (s : State) : (beginBreak s).handler = s.handler := by rw [beginBreak_frame]
@[simp] theorem beginBreak_unit (s : State) : (beginBreak s).unit = s.unit := by rw [beginBreak_frame]
@[simp] theorem beginBreak_notices (s : State) : (beginBreak s).notices = s.notices := by rw [beginBreak_frame]
@[simp] theorem beginBreak_tickTaken (s : State) : (beginBreak s).tickTaken = s.tickTaken := by rw [beginBreak_frame]
@[simp] theorem beginBreak_subTaken (s : State) : (beginBreak s).subTaken = s.subTaken := by rw [beginBreak_frame]
@[simp] theorem beginBreak_pending (s : State) : (beginBreak s).pending = s.pending := by rw [beginBreak_frame]

/-! ### batchLinkReset -/

theorem batchLinkReset_frame (s : State) :
    batchLinkReset s = { s with batch := (batchLinkReset s).batch, notices := (batchLinkReset s).notices } := by
  unfold batchLinkReset
  (repeat' split) <;> rfl

@[simp] theorem batchLinkReset_table (s : State) : (batchLinkReset s).table = s.table := by rw [batchLinkReset_frame]
@[simp] theorem batchLinkReset_sup (s : State) : (batchLinkReset s).sup = s.sup := by rw [batchLinkReset_frame]
@[simp] theorem batchLinkReset_clock (s : State) : (batchLinkReset s).clock = s.clock := by rw [batchLinkReset_frame]
@[simp] theorem batchLinkReset_board (s : State) : (batchLinkReset s).board = s.board := by rw [batchLinkReset_frame]
@[simp] theorem batchLinkReset_overlays (s : State) : (batchLinkReset s).overlays = s.overlays := by rw [batchLinkReset_frame]
@[simp] theorem batchLinkReset_phrases (s : State) : (batchLinkReset s).phrases = s.phrases := by rw [batchLinkReset_frame]
@[simp] theorem batchLinkReset_fonts (s : State) : (batchLinkReset s).fonts = s.fonts := by rw [batchLinkReset_frame]
@[simp] theorem batchLinkReset_coder (s : State) : (batchLinkReset s).coder = s.coder := by rw [batchLinkReset_frame]
@[simp] theorem batchLinkReset_chain (s : State) : (batchLinkReset s).chain = s.chain := by rw [batchLinkReset_frame]
@[simp] theorem batchLinkReset_light (s : State) : (batchLinkReset s).light = s.light := by rw [batchLinkReset_frame]
@[simp] theorem batchLinkReset_line (s : State) : (batchLinkReset s).line = s.line := by rw [batchLinkReset_frame]
@[simp] theorem batchLinkReset_handler (s : State) : (batchLinkReset s).handler = s.handler := by rw [batchLinkReset_frame]
@[simp] theorem batchLinkReset_unit (s : State) : (batchLinkReset s).unit = s.unit := by rw [batchLinkReset_frame]
@[simp] theorem batchLinkReset_tickTaken (s : State) : (batchLinkReset s).tickTaken = s.tickTaken := by rw [batchLinkReset_frame]
@[simp] theorem batchLinkReset_subTaken (s : State) : (batchLinkReset s).subTaken = s.subTaken := by rw [batchLinkReset_frame]
@[simp] theorem batchLinkReset_pending (s : State) : (batchLinkReset s).pending = s.pending := by rw [batchLinkReset_frame]

/-! ### linkReset -/

theorem linkReset_frame (s : State) :
    linkReset s = { s with batch := (linkReset s).batch, line := (linkReset s).line, handler := (linkReset s).handler, notices := (linkReset s).notices } := by
  simp only [linkReset]
  rw [batchLinkReset_frame]
  rw [dropReplies_frame]
  rfl

@[simp] theorem linkReset_table (s : State) : (linkReset s).table = s.table := by rw [linkReset_frame]
@[simp] theorem linkReset_sup (s : State) : (linkReset s).sup = s.sup := by rw [linkReset_frame]
@[simp] theorem linkReset_clock (s : State) : (linkReset s).clock = s.clock := by rw [linkReset_frame]
@[simp] theorem linkReset_board (s : State) : (linkReset s).board = s.board := by rw [linkReset_frame]
@[simp] theorem linkReset_overlays (s : State) : (linkReset s).overlays = s.overlays := by rw [linkReset_frame]
@[simp] theorem linkReset_phrases (s : State) : (linkReset s).phrases = s.phrases := by rw [linkReset_frame]
@[simp] theorem linkReset_fonts (s : State) : (linkReset s).fonts = s.fonts := by rw [linkReset_frame]
@[simp] theorem linkReset_coder (s : State) : (linkReset s).coder = s.coder := by rw [linkReset_frame]
@[simp] theorem linkReset_chain (s : State) : (linkReset s).chain = s.chain := by rw [linkReset_frame]
@[simp] theorem linkReset_light (s : State) : (linkReset s).light = s.light := by rw [linkReset_frame]
@[simp] theorem linkReset_unit (s : State) : (linkReset s).unit = s.unit := by rw [linkReset_frame]
@[simp] theorem linkReset_tickTaken (s : State) : (linkReset s).tickTaken = s.tickTaken := by rw [linkReset_frame]
@[simp] theorem linkReset_subTaken (s : State) : (linkReset s).subTaken = s.subTaken := by rw [linkReset_frame]
@[simp] theorem linkReset_pending (s : State) : (linkReset s).pending = s.pending := by rw [linkReset_frame]

/-! ### checkTaken -/

theorem checkTaken_frame (f : Slot) (s : State) :
    checkTaken f s = { s with line := (checkTaken f s).line, handler := (checkTaken f s).handler, notices := (checkTaken f s).notices } := by
  unfold checkTaken
  (repeat' split) <;> (try rw [finish_frame]) <;> rfl

@[simp] theorem checkTaken_table (f : Slot) (s : State) : (checkTaken f s).table = s.table := by rw [checkTaken_frame]
@[simp] theorem checkTaken_batch (f : Slot) (s : State) : (checkTaken f s).batch = s.batch := by rw [checkTaken_frame]
@[simp] theorem checkTaken_sup (f : Slot) (s : State) : (checkTaken f s).sup = s.sup := by rw [checkTaken_frame]
@[simp] theorem checkTaken_clock (f : Slot) (s : State) : (checkTaken f s).clock = s.clock := by rw [checkTaken_frame]
@[simp] theorem checkTaken_board (f : Slot) (s : State) : (checkTaken f s).board = s.board := by rw [checkTaken_frame]
@[simp] theorem checkTaken_overlays (f : Slot) (s : State) : (checkTaken f s).overlays = s.overlays := by rw [checkTaken_frame]
@[simp] theorem checkTaken_phrases (f : Slot) (s : State) : (checkTaken f s).phrases = s.phrases := by rw [checkTaken_frame]
@[simp] theorem checkTaken_fonts (f : Slot) (s : State) : (checkTaken f s).fonts = s.fonts := by rw [checkTaken_frame]
@[simp] theorem checkTaken_coder (f : Slot) (s : State) : (checkTaken f s).coder = s.coder := by rw [checkTaken_frame]
@[simp] theorem checkTaken_chain (f : Slot) (s : State) : (checkTaken f s).chain = s.chain := by rw [checkTaken_frame]
@[simp] theorem checkTaken_light (f : Slot) (s : State) : (checkTaken f s).light = s.light := by rw [checkTaken_frame]
@[simp] theorem checkTaken_unit (f : Slot) (s : State) : (checkTaken f s).unit = s.unit := by rw [checkTaken_frame]
@[simp] theorem checkTaken_tickTaken (f : Slot) (s : State) : (checkTaken f s).tickTaken = s.tickTaken := by rw [checkTaken_frame]
@[simp] theorem checkTaken_subTaken (f : Slot) (s : State) : (checkTaken f s).subTaken = s.subTaken := by rw [checkTaken_frame]
@[simp] theorem checkTaken_pending (f : Slot) (s : State) : (checkTaken f s).pending = s.pending := by rw [checkTaken_frame]

/-! ### actOnSent -/

theorem actOnSent_frame (c : Carried) (s : State) :
    actOnSent c s = { s with chain := (actOnSent c s).chain, line := (actOnSent c s).line, handler := (actOnSent c s).handler, notices := (actOnSent c s).notices } := by
  unfold actOnSent
  (repeat' split) <;> rfl

@[simp] theorem actOnSent_table (c : Carried) (s : State) : (actOnSent c s).table = s.table := by rw [actOnSent_frame]
@[simp] theorem actOnSent_batch (c : Carried) (s : State) : (actOnSent c s).batch = s.batch := by rw [actOnSent_frame]
@[simp] theorem actOnSent_sup (c : Carried) (s : State) : (actOnSent c s).sup = s.sup := by rw [actOnSent_frame]
@[simp] theorem actOnSent_clock (c : Carried) (s : State) : (actOnSent c s).clock = s.clock := by rw [actOnSent_frame]
@[simp] theorem actOnSent_board (c : Carried) (s : State) : (actOnSent c s).board = s.board := by rw [actOnSent_frame]
@[simp] theorem actOnSent_overlays (c : Carried) (s : State) : (actOnSent c s).overlays = s.overlays := by rw [actOnSent_frame]
@[simp] theorem actOnSent_phrases (c : Carried) (s : State) : (actOnSent c s).phrases = s.phrases := by rw [actOnSent_frame]
@[simp] theorem actOnSent_fonts (c : Carried) (s : State) : (actOnSent c s).fonts = s.fonts := by rw [actOnSent_frame]
@[simp] theorem actOnSent_coder (c : Carried) (s : State) : (actOnSent c s).coder = s.coder := by rw [actOnSent_frame]
@[simp] theorem actOnSent_light (c : Carried) (s : State) : (actOnSent c s).light = s.light := by rw [actOnSent_frame]
@[simp] theorem actOnSent_unit (c : Carried) (s : State) : (actOnSent c s).unit = s.unit := by rw [actOnSent_frame]
@[simp] theorem actOnSent_tickTaken (c : Carried) (s : State) : (actOnSent c s).tickTaken = s.tickTaken := by rw [actOnSent_frame]
@[simp] theorem actOnSent_subTaken (c : Carried) (s : State) : (actOnSent c s).subTaken = s.subTaken := by rw [actOnSent_frame]
@[simp] theorem actOnSent_pending (c : Carried) (s : State) : (actOnSent c s).pending = s.pending := by rw [actOnSent_frame]

/-! ### blockTick -/

theorem blockTick_frame (b : TickBlock) (s : State) :
    blockTick b s = { s with table := (blockTick b s).table, batch := (blockTick b s).batch, sup := (blockTick b s).sup, clock := (blockTick b s).clock, board := (blockTick b s).board, overlays := (blockTick b s).overlays, coder := (blockTick b s).coder, chain := (blockTick b s).chain, unit := (blockTick b s).unit, notices := (blockTick b s).notices } := by
  cases b <;> simp only [blockTick]
  · rw [clockTick_frame]
  · rw [tableTick_frame]
  · rw [batchTick_frame]
  · rw [supTick_frame]
  · rw [overlayTick_frame]
  · rw [composerTick_frame]
  · rw [chainTick_frame]
  · rfl

@[simp] theorem blockTick_phrases (b : TickBlock) (s : State) : (blockTick b s).phrases = s.phrases := by rw [blockTick_frame]
@[simp] theorem blockTick_fonts (b : TickBlock) (s : State) : (blockTick b s).fonts = s.fonts := by rw [blockTick_frame]
@[simp] theorem blockTick_light (b : TickBlock) (s : State) : (blockTick b s).light = s.light := by rw [blockTick_frame]
@[simp] theorem blockTick_line (b : TickBlock) (s : State) : (blockTick b s).line = s.line := by rw [blockTick_frame]
@[simp] theorem blockTick_handler (b : TickBlock) (s : State) : (blockTick b s).handler = s.handler := by rw [blockTick_frame]
@[simp] theorem blockTick_tickTaken (b : TickBlock) (s : State) : (blockTick b s).tickTaken = s.tickTaken := by rw [blockTick_frame]
@[simp] theorem blockTick_subTaken (b : TickBlock) (s : State) : (blockTick b s).subTaken = s.subTaken := by rw [blockTick_frame]
@[simp] theorem blockTick_pending (b : TickBlock) (s : State) : (blockTick b s).pending = s.pending := by rw [blockTick_frame]

end Sys2Proof.Machine
end

