-- ==== Sys2Proof/Laws/Bodies.lean ====
section
/-! SUPPORT. What the body of each request, and the ticks, leave as they were: one frame equation each, and one lemma per untouched field. -/

namespace Sys2Proof.Machine

open Sys2Proof

/-! ### abandon -/

theorem abandon_frame (r : Receiver) (s : State) :
    abandon r s = { s with line := (abandon r s).line } := rfl

@[simp] theorem abandon_table (r : Receiver) (s : State) : (abandon r s).table = s.table := by rw [abandon_frame]
@[simp] theorem abandon_batch (r : Receiver) (s : State) : (abandon r s).batch = s.batch := by rw [abandon_frame]
@[simp] theorem abandon_sup (r : Receiver) (s : State) : (abandon r s).sup = s.sup := by rw [abandon_frame]
@[simp] theorem abandon_clock (r : Receiver) (s : State) : (abandon r s).clock = s.clock := by rw [abandon_frame]
@[simp] theorem abandon_board (r : Receiver) (s : State) : (abandon r s).board = s.board := by rw [abandon_frame]
@[simp] theorem abandon_overlays (r : Receiver) (s : State) : (abandon r s).overlays = s.overlays := by rw [abandon_frame]
@[simp] theorem abandon_phrases (r : Receiver) (s : State) : (abandon r s).phrases = s.phrases := by rw [abandon_frame]
@[simp] theorem abandon_fonts (r : Receiver) (s : State) : (abandon r s).fonts = s.fonts := by rw [abandon_frame]
@[simp] theorem abandon_coder (r : Receiver) (s : State) : (abandon r s).coder = s.coder := by rw [abandon_frame]
@[simp] theorem abandon_chain (r : Receiver) (s : State) : (abandon r s).chain = s.chain := by rw [abandon_frame]
@[simp] theorem abandon_light (r : Receiver) (s : State) : (abandon r s).light = s.light := by rw [abandon_frame]
@[simp] theorem abandon_handler (r : Receiver) (s : State) : (abandon r s).handler = s.handler := by rw [abandon_frame]
@[simp] theorem abandon_unit (r : Receiver) (s : State) : (abandon r s).unit = s.unit := by rw [abandon_frame]
@[simp] theorem abandon_notices (r : Receiver) (s : State) : (abandon r s).notices = s.notices := by rw [abandon_frame]
@[simp] theorem abandon_tickTaken (r : Receiver) (s : State) : (abandon r s).tickTaken = s.tickTaken := by rw [abandon_frame]
@[simp] theorem abandon_subTaken (r : Receiver) (s : State) : (abandon r s).subTaken = s.subTaken := by rw [abandon_frame]
@[simp] theorem abandon_pending (r : Receiver) (s : State) : (abandon r s).pending = s.pending := by rw [abandon_frame]

/-! ### breakOver -/

theorem breakOver_frame (s : State) :
    breakOver s = { s with line := (breakOver s).line } := rfl

@[simp] theorem breakOver_table (s : State) : (breakOver s).table = s.table := by rw [breakOver_frame]
@[simp] theorem breakOver_batch (s : State) : (breakOver s).batch = s.batch := by rw [breakOver_frame]
@[simp] theorem breakOver_sup (s : State) : (breakOver s).sup = s.sup := by rw [breakOver_frame]
@[simp] theorem breakOver_clock (s : State) : (breakOver s).clock = s.clock := by rw [breakOver_frame]
@[simp] theorem breakOver_board (s : State) : (breakOver s).board = s.board := by rw [breakOver_frame]
@[simp] theorem breakOver_overlays (s : State) : (breakOver s).overlays = s.overlays := by rw [breakOver_frame]
@[simp] theorem breakOver_phrases (s : State) : (breakOver s).phrases = s.phrases := by rw [breakOver_frame]
@[simp] theorem breakOver_fonts (s : State) : (breakOver s).fonts = s.fonts := by rw [breakOver_frame]
@[simp] theorem breakOver_coder (s : State) : (breakOver s).coder = s.coder := by rw [breakOver_frame]
@[simp] theorem breakOver_chain (s : State) : (breakOver s).chain = s.chain := by rw [breakOver_frame]
@[simp] theorem breakOver_light (s : State) : (breakOver s).light = s.light := by rw [breakOver_frame]
@[simp] theorem breakOver_handler (s : State) : (breakOver s).handler = s.handler := by rw [breakOver_frame]
@[simp] theorem breakOver_unit (s : State) : (breakOver s).unit = s.unit := by rw [breakOver_frame]
@[simp] theorem breakOver_notices (s : State) : (breakOver s).notices = s.notices := by rw [breakOver_frame]
@[simp] theorem breakOver_tickTaken (s : State) : (breakOver s).tickTaken = s.tickTaken := by rw [breakOver_frame]
@[simp] theorem breakOver_subTaken (s : State) : (breakOver s).subTaken = s.subTaken := by rw [breakOver_frame]
@[simp] theorem breakOver_pending (s : State) : (breakOver s).pending = s.pending := by rw [breakOver_frame]

/-! ### countNak -/

theorem countNak_frame (p : Pos) (s : State) :
    countNak p s = { s with chain := (countNak p s).chain } := rfl

@[simp] theorem countNak_table (p : Pos) (s : State) : (countNak p s).table = s.table := by rw [countNak_frame]
@[simp] theorem countNak_batch (p : Pos) (s : State) : (countNak p s).batch = s.batch := by rw [countNak_frame]
@[simp] theorem countNak_sup (p : Pos) (s : State) : (countNak p s).sup = s.sup := by rw [countNak_frame]
@[simp] theorem countNak_clock (p : Pos) (s : State) : (countNak p s).clock = s.clock := by rw [countNak_frame]
@[simp] theorem countNak_board (p : Pos) (s : State) : (countNak p s).board = s.board := by rw [countNak_frame]
@[simp] theorem countNak_overlays (p : Pos) (s : State) : (countNak p s).overlays = s.overlays := by rw [countNak_frame]
@[simp] theorem countNak_phrases (p : Pos) (s : State) : (countNak p s).phrases = s.phrases := by rw [countNak_frame]
@[simp] theorem countNak_fonts (p : Pos) (s : State) : (countNak p s).fonts = s.fonts := by rw [countNak_frame]
@[simp] theorem countNak_coder (p : Pos) (s : State) : (countNak p s).coder = s.coder := by rw [countNak_frame]
@[simp] theorem countNak_light (p : Pos) (s : State) : (countNak p s).light = s.light := by rw [countNak_frame]
@[simp] theorem countNak_line (p : Pos) (s : State) : (countNak p s).line = s.line := by rw [countNak_frame]
@[simp] theorem countNak_handler (p : Pos) (s : State) : (countNak p s).handler = s.handler := by rw [countNak_frame]
@[simp] theorem countNak_unit (p : Pos) (s : State) : (countNak p s).unit = s.unit := by rw [countNak_frame]
@[simp] theorem countNak_notices (p : Pos) (s : State) : (countNak p s).notices = s.notices := by rw [countNak_frame]
@[simp] theorem countNak_tickTaken (p : Pos) (s : State) : (countNak p s).tickTaken = s.tickTaken := by rw [countNak_frame]
@[simp] theorem countNak_subTaken (p : Pos) (s : State) : (countNak p s).subTaken = s.subTaken := by rw [countNak_frame]
@[simp] theorem countNak_pending (p : Pos) (s : State) : (countNak p s).pending = s.pending := by rw [countNak_frame]

/-! ### countTimeout -/

theorem countTimeout_frame (p : Pos) (s : State) :
    countTimeout p s = { s with chain := (countTimeout p s).chain } := rfl

@[simp] theorem countTimeout_table (p : Pos) (s : State) : (countTimeout p s).table = s.table := by rw [countTimeout_frame]
@[simp] theorem countTimeout_batch (p : Pos) (s : State) : (countTimeout p s).batch = s.batch := by rw [countTimeout_frame]
@[simp] theorem countTimeout_sup (p : Pos) (s : State) : (countTimeout p s).sup = s.sup := by rw [countTimeout_frame]
@[simp] theorem countTimeout_clock (p : Pos) (s : State) : (countTimeout p s).clock = s.clock := by rw [countTimeout_frame]
@[simp] theorem countTimeout_board (p : Pos) (s : State) : (countTimeout p s).board = s.board := by rw [countTimeout_frame]
@[simp] theorem countTimeout_overlays (p : Pos) (s : State) : (countTimeout p s).overlays = s.overlays := by rw [countTimeout_frame]
@[simp] theorem countTimeout_phrases (p : Pos) (s : State) : (countTimeout p s).phrases = s.phrases := by rw [countTimeout_frame]
@[simp] theorem countTimeout_fonts (p : Pos) (s : State) : (countTimeout p s).fonts = s.fonts := by rw [countTimeout_frame]
@[simp] theorem countTimeout_coder (p : Pos) (s : State) : (countTimeout p s).coder = s.coder := by rw [countTimeout_frame]
@[simp] theorem countTimeout_light (p : Pos) (s : State) : (countTimeout p s).light = s.light := by rw [countTimeout_frame]
@[simp] theorem countTimeout_line (p : Pos) (s : State) : (countTimeout p s).line = s.line := by rw [countTimeout_frame]
@[simp] theorem countTimeout_handler (p : Pos) (s : State) : (countTimeout p s).handler = s.handler := by rw [countTimeout_frame]
@[simp] theorem countTimeout_unit (p : Pos) (s : State) : (countTimeout p s).unit = s.unit := by rw [countTimeout_frame]
@[simp] theorem countTimeout_notices (p : Pos) (s : State) : (countTimeout p s).notices = s.notices := by rw [countTimeout_frame]
@[simp] theorem countTimeout_tickTaken (p : Pos) (s : State) : (countTimeout p s).tickTaken = s.tickTaken := by rw [countTimeout_frame]
@[simp] theorem countTimeout_subTaken (p : Pos) (s : State) : (countTimeout p s).subTaken = s.subTaken := by rw [countTimeout_frame]
@[simp] theorem countTimeout_pending (p : Pos) (s : State) : (countTimeout p s).pending = s.pending := by rw [countTimeout_frame]

/-! ### panelGood -/

theorem panelGood_frame (p : Pos) (s : State) :
    panelGood p s = { s with chain := (panelGood p s).chain } := rfl

@[simp] theorem panelGood_table (p : Pos) (s : State) : (panelGood p s).table = s.table := by rw [panelGood_frame]
@[simp] theorem panelGood_batch (p : Pos) (s : State) : (panelGood p s).batch = s.batch := by rw [panelGood_frame]
@[simp] theorem panelGood_sup (p : Pos) (s : State) : (panelGood p s).sup = s.sup := by rw [panelGood_frame]
@[simp] theorem panelGood_clock (p : Pos) (s : State) : (panelGood p s).clock = s.clock := by rw [panelGood_frame]
@[simp] theorem panelGood_board (p : Pos) (s : State) : (panelGood p s).board = s.board := by rw [panelGood_frame]
@[simp] theorem panelGood_overlays (p : Pos) (s : State) : (panelGood p s).overlays = s.overlays := by rw [panelGood_frame]
@[simp] theorem panelGood_phrases (p : Pos) (s : State) : (panelGood p s).phrases = s.phrases := by rw [panelGood_frame]
@[simp] theorem panelGood_fonts (p : Pos) (s : State) : (panelGood p s).fonts = s.fonts := by rw [panelGood_frame]
@[simp] theorem panelGood_coder (p : Pos) (s : State) : (panelGood p s).coder = s.coder := by rw [panelGood_frame]
@[simp] theorem panelGood_light (p : Pos) (s : State) : (panelGood p s).light = s.light := by rw [panelGood_frame]
@[simp] theorem panelGood_line (p : Pos) (s : State) : (panelGood p s).line = s.line := by rw [panelGood_frame]
@[simp] theorem panelGood_handler (p : Pos) (s : State) : (panelGood p s).handler = s.handler := by rw [panelGood_frame]
@[simp] theorem panelGood_unit (p : Pos) (s : State) : (panelGood p s).unit = s.unit := by rw [panelGood_frame]
@[simp] theorem panelGood_notices (p : Pos) (s : State) : (panelGood p s).notices = s.notices := by rw [panelGood_frame]
@[simp] theorem panelGood_tickTaken (p : Pos) (s : State) : (panelGood p s).tickTaken = s.tickTaken := by rw [panelGood_frame]
@[simp] theorem panelGood_subTaken (p : Pos) (s : State) : (panelGood p s).subTaken = s.subTaken := by rw [panelGood_frame]
@[simp] theorem panelGood_pending (p : Pos) (s : State) : (panelGood p s).pending = s.pending := by rw [panelGood_frame]

/-! ### beginEnumeration -/

theorem beginEnumeration_frame (s : State) :
    beginEnumeration s = { s with chain := (beginEnumeration s).chain } := rfl

@[simp] theorem beginEnumeration_table (s : State) : (beginEnumeration s).table = s.table := by rw [beginEnumeration_frame]
@[simp] theorem beginEnumeration_batch (s : State) : (beginEnumeration s).batch = s.batch := by rw [beginEnumeration_frame]
@[simp] theorem beginEnumeration_sup (s : State) : (beginEnumeration s).sup = s.sup := by rw [beginEnumeration_frame]
@[simp] theorem beginEnumeration_clock (s : State) : (beginEnumeration s).clock = s.clock := by rw [beginEnumeration_frame]
@[simp] theorem beginEnumeration_board (s : State) : (beginEnumeration s).board = s.board := by rw [beginEnumeration_frame]
@[simp] theorem beginEnumeration_overlays (s : State) : (beginEnumeration s).overlays = s.overlays := by rw [beginEnumeration_frame]
@[simp] theorem beginEnumeration_phrases (s : State) : (beginEnumeration s).phrases = s.phrases := by rw [beginEnumeration_frame]
@[simp] theorem beginEnumeration_fonts (s : State) : (beginEnumeration s).fonts = s.fonts := by rw [beginEnumeration_frame]
@[simp] theorem beginEnumeration_coder (s : State) : (beginEnumeration s).coder = s.coder := by rw [beginEnumeration_frame]
@[simp] theorem beginEnumeration_light (s : State) : (beginEnumeration s).light = s.light := by rw [beginEnumeration_frame]
@[simp] theorem beginEnumeration_line (s : State) : (beginEnumeration s).line = s.line := by rw [beginEnumeration_frame]
@[simp] theorem beginEnumeration_handler (s : State) : (beginEnumeration s).handler = s.handler := by rw [beginEnumeration_frame]
@[simp] theorem beginEnumeration_unit (s : State) : (beginEnumeration s).unit = s.unit := by rw [beginEnumeration_frame]
@[simp] theorem beginEnumeration_notices (s : State) : (beginEnumeration s).notices = s.notices := by rw [beginEnumeration_frame]
@[simp] theorem beginEnumeration_tickTaken (s : State) : (beginEnumeration s).tickTaken = s.tickTaken := by rw [beginEnumeration_frame]
@[simp] theorem beginEnumeration_subTaken (s : State) : (beginEnumeration s).subTaken = s.subTaken := by rw [beginEnumeration_frame]
@[simp] theorem beginEnumeration_pending (s : State) : (beginEnumeration s).pending = s.pending := by rw [beginEnumeration_frame]

/-! ### dropImage -/

theorem dropImage_frame (s : State) :
    dropImage s = { s with board := (dropImage s).board } := rfl

@[simp] theorem dropImage_table (s : State) : (dropImage s).table = s.table := by rw [dropImage_frame]
@[simp] theorem dropImage_batch (s : State) : (dropImage s).batch = s.batch := by rw [dropImage_frame]
@[simp] theorem dropImage_sup (s : State) : (dropImage s).sup = s.sup := by rw [dropImage_frame]
@[simp] theorem dropImage_clock (s : State) : (dropImage s).clock = s.clock := by rw [dropImage_frame]
@[simp] theorem dropImage_overlays (s : State) : (dropImage s).overlays = s.overlays := by rw [dropImage_frame]
@[simp] theorem dropImage_phrases (s : State) : (dropImage s).phrases = s.phrases := by rw [dropImage_frame]
@[simp] theorem dropImage_fonts (s : State) : (dropImage s).fonts = s.fonts := by rw [dropImage_frame]
@[simp] theorem dropImage_coder (s : State) : (dropImage s).coder = s.coder := by rw [dropImage_frame]
@[simp] theorem dropImage_chain (s : State) : (dropImage s).chain = s.chain := by rw [dropImage_frame]
@[simp] theorem dropImage_light (s : State) : (dropImage s).light = s.light := by rw [dropImage_frame]
@[simp] theorem dropImage_line (s : State) : (dropImage s).line = s.line := by rw [dropImage_frame]
@[simp] theorem dropImage_handler (s : State) : (dropImage s).handler = s.handler := by rw [dropImage_frame]
@[simp] theorem dropImage_unit (s : State) : (dropImage s).unit = s.unit := by rw [dropImage_frame]
@[simp] theorem dropImage_notices (s : State) : (dropImage s).notices = s.notices := by rw [dropImage_frame]
@[simp] theorem dropImage_tickTaken (s : State) : (dropImage s).tickTaken = s.tickTaken := by rw [dropImage_frame]
@[simp] theorem dropImage_subTaken (s : State) : (dropImage s).subTaken = s.subTaken := by rw [dropImage_frame]
@[simp] theorem dropImage_pending (s : State) : (dropImage s).pending = s.pending := by rw [dropImage_frame]

/-! ### storePage -/

theorem storePage_frame (i : Fin 4) (p : Option Page) (s : State) :
    storePage i p s = { s with board := (storePage i p s).board } := rfl

@[simp] theorem storePage_table (i : Fin 4) (p : Option Page) (s : State) : (storePage i p s).table = s.table := by rw [storePage_frame]
@[simp] theorem storePage_batch (i : Fin 4) (p : Option Page) (s : State) : (storePage i p s).batch = s.batch := by rw [storePage_frame]
@[simp] theorem storePage_sup (i : Fin 4) (p : Option Page) (s : State) : (storePage i p s).sup = s.sup := by rw [storePage_frame]
@[simp] theorem storePage_clock (i : Fin 4) (p : Option Page) (s : State) : (storePage i p s).clock = s.clock := by rw [storePage_frame]
@[simp] theorem storePage_overlays (i : Fin 4) (p : Option Page) (s : State) : (storePage i p s).overlays = s.overlays := by rw [storePage_frame]
@[simp] theorem storePage_phrases (i : Fin 4) (p : Option Page) (s : State) : (storePage i p s).phrases = s.phrases := by rw [storePage_frame]
@[simp] theorem storePage_fonts (i : Fin 4) (p : Option Page) (s : State) : (storePage i p s).fonts = s.fonts := by rw [storePage_frame]
@[simp] theorem storePage_coder (i : Fin 4) (p : Option Page) (s : State) : (storePage i p s).coder = s.coder := by rw [storePage_frame]
@[simp] theorem storePage_chain (i : Fin 4) (p : Option Page) (s : State) : (storePage i p s).chain = s.chain := by rw [storePage_frame]
@[simp] theorem storePage_light (i : Fin 4) (p : Option Page) (s : State) : (storePage i p s).light = s.light := by rw [storePage_frame]
@[simp] theorem storePage_line (i : Fin 4) (p : Option Page) (s : State) : (storePage i p s).line = s.line := by rw [storePage_frame]
@[simp] theorem storePage_handler (i : Fin 4) (p : Option Page) (s : State) : (storePage i p s).handler = s.handler := by rw [storePage_frame]
@[simp] theorem storePage_unit (i : Fin 4) (p : Option Page) (s : State) : (storePage i p s).unit = s.unit := by rw [storePage_frame]
@[simp] theorem storePage_notices (i : Fin 4) (p : Option Page) (s : State) : (storePage i p s).notices = s.notices := by rw [storePage_frame]
@[simp] theorem storePage_tickTaken (i : Fin 4) (p : Option Page) (s : State) : (storePage i p s).tickTaken = s.tickTaken := by rw [storePage_frame]
@[simp] theorem storePage_subTaken (i : Fin 4) (p : Option Page) (s : State) : (storePage i p s).subTaken = s.subTaken := by rw [storePage_frame]
@[simp] theorem storePage_pending (i : Fin 4) (p : Option Page) (s : State) : (storePage i p s).pending = s.pending := by rw [storePage_frame]

/-! ### restartGap -/

theorem restartGap_frame (b : Batch) (s : State) :
    restartGap b s = { s with batch := (restartGap b s).batch } := rfl

@[simp] theorem restartGap_table (b : Batch) (s : State) : (restartGap b s).table = s.table := by rw [restartGap_frame]
@[simp] theorem restartGap_sup (b : Batch) (s : State) : (restartGap b s).sup = s.sup := by rw [restartGap_frame]
@[simp] theorem restartGap_clock (b : Batch) (s : State) : (restartGap b s).clock = s.clock := by rw [restartGap_frame]
@[simp] theorem restartGap_board (b : Batch) (s : State) : (restartGap b s).board = s.board := by rw [restartGap_frame]
@[simp] theorem restartGap_overlays (b : Batch) (s : State) : (restartGap b s).overlays = s.overlays := by rw [restartGap_frame]
@[simp] theorem restartGap_phrases (b : Batch) (s : State) : (restartGap b s).phrases = s.phrases := by rw [restartGap_frame]
@[simp] theorem restartGap_fonts (b : Batch) (s : State) : (restartGap b s).fonts = s.fonts := by rw [restartGap_frame]
@[simp] theorem restartGap_coder (b : Batch) (s : State) : (restartGap b s).coder = s.coder := by rw [restartGap_frame]
@[simp] theorem restartGap_chain (b : Batch) (s : State) : (restartGap b s).chain = s.chain := by rw [restartGap_frame]
@[simp] theorem restartGap_light (b : Batch) (s : State) : (restartGap b s).light = s.light := by rw [restartGap_frame]
@[simp] theorem restartGap_line (b : Batch) (s : State) : (restartGap b s).line = s.line := by rw [restartGap_frame]
@[simp] theorem restartGap_handler (b : Batch) (s : State) : (restartGap b s).handler = s.handler := by rw [restartGap_frame]
@[simp] theorem restartGap_unit (b : Batch) (s : State) : (restartGap b s).unit = s.unit := by rw [restartGap_frame]
@[simp] theorem restartGap_notices (b : Batch) (s : State) : (restartGap b s).notices = s.notices := by rw [restartGap_frame]
@[simp] theorem restartGap_tickTaken (b : Batch) (s : State) : (restartGap b s).tickTaken = s.tickTaken := by rw [restartGap_frame]
@[simp] theorem restartGap_subTaken (b : Batch) (s : State) : (restartGap b s).subTaken = s.subTaken := by rw [restartGap_frame]
@[simp] theorem restartGap_pending (b : Batch) (s : State) : (restartGap b s).pending = s.pending := by rw [restartGap_frame]

/-! ### offerDisplaced -/

theorem offerDisplaced_frame (o : Option Overlay) (s : State) :
    offerDisplaced o s = { s with notices := (offerDisplaced o s).notices } := by
  unfold offerDisplaced
  (repeat' split) <;> rfl

@[simp] theorem offerDisplaced_table (o : Option Overlay) (s : State) : (offerDisplaced o s).table = s.table := by rw [offerDisplaced_frame]
@[simp] theorem offerDisplaced_batch (o : Option Overlay) (s : State) : (offerDisplaced o s).batch = s.batch := by rw [offerDisplaced_frame]
@[simp] theorem offerDisplaced_sup (o : Option Overlay) (s : State) : (offerDisplaced o s).sup = s.sup := by rw [offerDisplaced_frame]
@[simp] theorem offerDisplaced_clock (o : Option Overlay) (s : State) : (offerDisplaced o s).clock = s.clock := by rw [offerDisplaced_frame]
@[simp] theorem offerDisplaced_board (o : Option Overlay) (s : State) : (offerDisplaced o s).board = s.board := by rw [offerDisplaced_frame]
@[simp] theorem offerDisplaced_overlays (o : Option Overlay) (s : State) : (offerDisplaced o s).overlays = s.overlays := by rw [offerDisplaced_frame]
@[simp] theorem offerDisplaced_phrases (o : Option Overlay) (s : State) : (offerDisplaced o s).phrases = s.phrases := by rw [offerDisplaced_frame]
@[simp] theorem offerDisplaced_fonts (o : Option Overlay) (s : State) : (offerDisplaced o s).fonts = s.fonts := by rw [offerDisplaced_frame]
@[simp] theorem offerDisplaced_coder (o : Option Overlay) (s : State) : (offerDisplaced o s).coder = s.coder := by rw [offerDisplaced_frame]
@[simp] theorem offerDisplaced_chain (o : Option Overlay) (s : State) : (offerDisplaced o s).chain = s.chain := by rw [offerDisplaced_frame]
@[simp] theorem offerDisplaced_light (o : Option Overlay) (s : State) : (offerDisplaced o s).light = s.light := by rw [offerDisplaced_frame]
@[simp] theorem offerDisplaced_line (o : Option Overlay) (s : State) : (offerDisplaced o s).line = s.line := by rw [offerDisplaced_frame]
@[simp] theorem offerDisplaced_handler (o : Option Overlay) (s : State) : (offerDisplaced o s).handler = s.handler := by rw [offerDisplaced_frame]
@[simp] theorem offerDisplaced_unit (o : Option Overlay) (s : State) : (offerDisplaced o s).unit = s.unit := by rw [offerDisplaced_frame]
@[simp] theorem offerDisplaced_tickTaken (o : Option Overlay) (s : State) : (offerDisplaced o s).tickTaken = s.tickTaken := by rw [offerDisplaced_frame]
@[simp] theorem offerDisplaced_subTaken (o : Option Overlay) (s : State) : (offerDisplaced o s).subTaken = s.subTaken := by rw [offerDisplaced_frame]
@[simp] theorem offerDisplaced_pending (o : Option Overlay) (s : State) : (offerDisplaced o s).pending = s.pending := by rw [offerDisplaced_frame]

/-! ### markAcquiring -/

theorem markAcquiring_frame (m : Nat) (s : State) :
    (markAcquiring m s).1 = { s with clock := ((markAcquiring m s).1).clock, notices := ((markAcquiring m s).1).notices } := by
  unfold markAcquiring
  (repeat' split) <;> rfl

@[simp] theorem markAcquiring_table (m : Nat) (s : State) : ((markAcquiring m s).1).table = s.table := by rw [markAcquiring_frame]
@[simp] theorem markAcquiring_batch (m : Nat) (s : State) : ((markAcquiring m s).1).batch = s.batch := by rw [markAcquiring_frame]
@[simp] theorem markAcquiring_sup (m : Nat) (s : State) : ((markAcquiring m s).1).sup = s.sup := by rw [markAcquiring_frame]
@[simp] theorem markAcquiring_board (m : Nat) (s : State) : ((markAcquiring m s).1).board = s.board := by rw [markAcquiring_frame]
@[simp] theorem markAcquiring_overlays (m : Nat) (s : State) : ((markAcquiring m s).1).overlays = s.overlays := by rw [markAcquiring_frame]
@[simp] theorem markAcquiring_phrases (m : Nat) (s : State) : ((markAcquiring m s).1).phrases = s.phrases := by rw [markAcquiring_frame]
@[simp] theorem markAcquiring_fonts (m : Nat) (s : State) : ((markAcquiring m s).1).fonts = s.fonts := by rw [markAcquiring_frame]
@[simp] theorem markAcquiring_coder (m : Nat) (s : State) : ((markAcquiring m s).1).coder = s.coder := by rw [markAcquiring_frame]
@[simp] theorem markAcquiring_chain (m : Nat) (s : State) : ((markAcquiring m s).1).chain = s.chain := by rw [markAcquiring_frame]
@[simp] theorem markAcquiring_light (m : Nat) (s : State) : ((markAcquiring m s).1).light = s.light := by rw [markAcquiring_frame]
@[simp] theorem markAcquiring_line (m : Nat) (s : State) : ((markAcquiring m s).1).line = s.line := by rw [markAcquiring_frame]
@[simp] theorem markAcquiring_handler (m : Nat) (s : State) : ((markAcquiring m s).1).handler = s.handler := by rw [markAcquiring_frame]
@[simp] theorem markAcquiring_unit (m : Nat) (s : State) : ((markAcquiring m s).1).unit = s.unit := by rw [markAcquiring_frame]
@[simp] theorem markAcquiring_tickTaken (m : Nat) (s : State) : ((markAcquiring m s).1).tickTaken = s.tickTaken := by rw [markAcquiring_frame]
@[simp] theorem markAcquiring_subTaken (m : Nat) (s : State) : ((markAcquiring m s).1).subTaken = s.subTaken := by rw [markAcquiring_frame]
@[simp] theorem markAcquiring_pending (m : Nat) (s : State) : ((markAcquiring m s).1).pending = s.pending := by rw [markAcquiring_frame]

/-! ### markLocked -/

theorem markLocked_frame (m : Nat) (s : State) :
    (markLocked m s).1 = { s with clock := ((markLocked m s).1).clock, notices := ((markLocked m s).1).notices } := by
  unfold markLocked
  (repeat' split) <;> rfl

@[simp] theorem markLocked_table (m : Nat) (s : State) : ((markLocked m s).1).table = s.table := by rw [markLocked_frame]
@[simp] theorem markLocked_batch (m : Nat) (s : State) : ((markLocked m s).1).batch = s.batch := by rw [markLocked_frame]
@[simp] theorem markLocked_sup (m : Nat) (s : State) : ((markLocked m s).1).sup = s.sup := by rw [markLocked_frame]
@[simp] theorem markLocked_board (m : Nat) (s : State) : ((markLocked m s).1).board = s.board := by rw [markLocked_frame]
@[simp] theorem markLocked_overlays (m : Nat) (s : State) : ((markLocked m s).1).overlays = s.overlays := by rw [markLocked_frame]
@[simp] theorem markLocked_phrases (m : Nat) (s : State) : ((markLocked m s).1).phrases = s.phrases := by rw [markLocked_frame]
@[simp] theorem markLocked_fonts (m : Nat) (s : State) : ((markLocked m s).1).fonts = s.fonts := by rw [markLocked_frame]
@[simp] theorem markLocked_coder (m : Nat) (s : State) : ((markLocked m s).1).coder = s.coder := by rw [markLocked_frame]
@[simp] theorem markLocked_chain (m : Nat) (s : State) : ((markLocked m s).1).chain = s.chain := by rw [markLocked_frame]
@[simp] theorem markLocked_light (m : Nat) (s : State) : ((markLocked m s).1).light = s.light := by rw [markLocked_frame]
@[simp] theorem markLocked_line (m : Nat) (s : State) : ((markLocked m s).1).line = s.line := by rw [markLocked_frame]
@[simp] theorem markLocked_handler (m : Nat) (s : State) : ((markLocked m s).1).handler = s.handler := by rw [markLocked_frame]
@[simp] theorem markLocked_unit (m : Nat) (s : State) : ((markLocked m s).1).unit = s.unit := by rw [markLocked_frame]
@[simp] theorem markLocked_tickTaken (m : Nat) (s : State) : ((markLocked m s).1).tickTaken = s.tickTaken := by rw [markLocked_frame]
@[simp] theorem markLocked_subTaken (m : Nat) (s : State) : ((markLocked m s).1).subTaken = s.subTaken := by rw [markLocked_frame]
@[simp] theorem markLocked_pending (m : Nat) (s : State) : ((markLocked m s).1).pending = s.pending := by rw [markLocked_frame]

/-! ### applyMark -/

theorem applyMark_frame (day m : Nat) (s : State) :
    (applyMark day m s).1 = { s with table := ((applyMark day m s).1).table, clock := ((applyMark day m s).1).clock, notices := ((applyMark day m s).1).notices } := by
  unfold applyMark
  (repeat' split) <;> (try rw [markAcquiring_frame]) <;> (try rw [markLocked_frame]) <;> rfl

@[simp] theorem applyMark_batch (day m : Nat) (s : State) : ((applyMark day m s).1).batch = s.batch := by rw [applyMark_frame]
@[simp] theorem applyMark_sup (day m : Nat) (s : State) : ((applyMark day m s).1).sup = s.sup := by rw [applyMark_frame]
@[simp] theorem applyMark_board (day m : Nat) (s : State) : ((applyMark day m s).1).board = s.board := by rw [applyMark_frame]
@[simp] theorem applyMark_overlays (day m : Nat) (s : State) : ((applyMark day m s).1).overlays = s.overlays := by rw [applyMark_frame]
@[simp] theorem applyMark_phrases (day m : Nat) (s : State) : ((applyMark day m s).1).phrases = s.phrases := by rw [applyMark_frame]
@[simp] theorem applyMark_fonts (day m : Nat) (s : State) : ((applyMark day m s).1).fonts = s.fonts := by rw [applyMark_frame]
@[simp] theorem applyMark_coder (day m : Nat) (s : State) : ((applyMark day m s).1).coder = s.coder := by rw [applyMark_frame]
@[simp] theorem applyMark_chain (day m : Nat) (s : State) : ((applyMark day m s).1).chain = s.chain := by rw [applyMark_frame]
@[simp] theorem applyMark_light (day m : Nat) (s : State) : ((applyMark day m s).1).light = s.light := by rw [applyMark_frame]
@[simp] theorem applyMark_line (day m : Nat) (s : State) : ((applyMark day m s).1).line = s.line := by rw [applyMark_frame]
@[simp] theorem applyMark_handler (day m : Nat) (s : State) : ((applyMark day m s).1).handler = s.handler := by rw [applyMark_frame]
@[simp] theorem applyMark_unit (day m : Nat) (s : State) : ((applyMark day m s).1).unit = s.unit := by rw [applyMark_frame]
@[simp] theorem applyMark_tickTaken (day m : Nat) (s : State) : ((applyMark day m s).1).tickTaken = s.tickTaken := by rw [applyMark_frame]
@[simp] theorem applyMark_subTaken (day m : Nat) (s : State) : ((applyMark day m s).1).subTaken = s.subTaken := by rw [applyMark_frame]
@[simp] theorem applyMark_pending (day m : Nat) (s : State) : ((applyMark day m s).1).pending = s.pending := by rw [applyMark_frame]

/-! ### timeMarkBody -/

theorem timeMarkBody_frame (day sec six : Nat) (s : State) :
    (timeMarkBody day sec six s).1 = { s with table := ((timeMarkBody day sec six s).1).table, clock := ((timeMarkBody day sec six s).1).clock, board := ((timeMarkBody day sec six s).1).board, notices := ((timeMarkBody day sec six s).1).notices } := by
  simp only [timeMarkBody]
  (repeat' split) <;> (try rw [recompute_frame]) <;> (try rw [applyMark_frame]) <;> rfl

@[simp] theorem timeMarkBody_batch (day sec six : Nat) (s : State) : ((timeMarkBody day sec six s).1).batch = s.batch := by rw [timeMarkBody_frame]
@[simp] theorem timeMarkBody_sup (day sec six : Nat) (s : State) : ((timeMarkBody day sec six s).1).sup = s.sup := by rw [timeMarkBody_frame]
@[simp] theorem timeMarkBody_overlays (day sec six : Nat) (s : State) : ((timeMarkBody day sec six s).1).overlays = s.overlays := by rw [timeMarkBody_frame]
@[simp] theorem timeMarkBody_phrases (day sec six : Nat) (s : State) : ((timeMarkBody day sec six s).1).phrases = s.phrases := by rw [timeMarkBody_frame]
@[simp] theorem timeMarkBody_fonts (day sec six : Nat) (s : State) : ((timeMarkBody day sec six s).1).fonts = s.fonts := by rw [timeMarkBody_frame]
@[simp] theorem timeMarkBody_coder (day sec six : Nat) (s : State) : ((timeMarkBody day sec six s).1).coder = s.coder := by rw [timeMarkBody_frame]
@[simp] theorem timeMarkBody_chain (day sec six : Nat) (s : State) : ((timeMarkBody day sec six s).1).chain = s.chain := by rw [timeMarkBody_frame]
@[simp] theorem timeMarkBody_light (day sec six : Nat) (s : State) : ((timeMarkBody day sec six s).1).light = s.light := by rw [timeMarkBody_frame]
@[simp] theorem timeMarkBody_line (day sec six : Nat) (s : State) : ((timeMarkBody day sec six s).1).line = s.line := by rw [timeMarkBody_frame]
@[simp] theorem timeMarkBody_handler (day sec six : Nat) (s : State) : ((timeMarkBody day sec six s).1).handler = s.handler := by rw [timeMarkBody_frame]
@[simp] theorem timeMarkBody_unit (day sec six : Nat) (s : State) : ((timeMarkBody day sec six s).1).unit = s.unit := by rw [timeMarkBody_frame]
@[simp] theorem timeMarkBody_tickTaken (day sec six : Nat) (s : State) : ((timeMarkBody day sec six s).1).tickTaken = s.tickTaken := by rw [timeMarkBody_frame]
@[simp] theorem timeMarkBody_subTaken (day sec six : Nat) (s : State) : ((timeMarkBody day sec six s).1).subTaken = s.subTaken := by rw [timeMarkBody_frame]
@[simp] theorem timeMarkBody_pending (day sec six : Nat) (s : State) : ((timeMarkBody day sec six s).1).pending = s.pending := by rw [timeMarkBody_frame]

/-! ### setClockRulesBody -/

theorem setClockRulesBody_frame (k tol coast lapseAfter : Nat) (s : State) :
    (setClockRulesBody k tol coast lapseAfter s).1 = { s with clock := ((setClockRulesBody k tol coast lapseAfter s).1).clock } := rfl

@[simp] theorem setClockRulesBody_table (k tol coast lapseAfter : Nat) (s : State) : ((setClockRulesBody k tol coast lapseAfter s).1).table = s.table := by rw [setClockRulesBody_frame]
@[simp] theorem setClockRulesBody_batch (k tol coast lapseAfter : Nat) (s : State) : ((setClockRulesBody k tol coast lapseAfter s).1).batch = s.batch := by rw [setClockRulesBody_frame]
@[simp] theorem setClockRulesBody_sup (k tol coast lapseAfter : Nat) (s : State) : ((setClockRulesBody k tol coast lapseAfter s).1).sup = s.sup := by rw [setClockRulesBody_frame]
@[simp] theorem setClockRulesBody_board (k tol coast lapseAfter : Nat) (s : State) : ((setClockRulesBody k tol coast lapseAfter s).1).board = s.board := by rw [setClockRulesBody_frame]
@[simp] theorem setClockRulesBody_overlays (k tol coast lapseAfter : Nat) (s : State) : ((setClockRulesBody k tol coast lapseAfter s).1).overlays = s.overlays := by rw [setClockRulesBody_frame]
@[simp] theorem setClockRulesBody_phrases (k tol coast lapseAfter : Nat) (s : State) : ((setClockRulesBody k tol coast lapseAfter s).1).phrases = s.phrases := by rw [setClockRulesBody_frame]
@[simp] theorem setClockRulesBody_fonts (k tol coast lapseAfter : Nat) (s : State) : ((setClockRulesBody k tol coast lapseAfter s).1).fonts = s.fonts := by rw [setClockRulesBody_frame]
@[simp] theorem setClockRulesBody_coder (k tol coast lapseAfter : Nat) (s : State) : ((setClockRulesBody k tol coast lapseAfter s).1).coder = s.coder := by rw [setClockRulesBody_frame]
@[simp] theorem setClockRulesBody_chain (k tol coast lapseAfter : Nat) (s : State) : ((setClockRulesBody k tol coast lapseAfter s).1).chain = s.chain := by rw [setClockRulesBody_frame]
@[simp] theorem setClockRulesBody_light (k tol coast lapseAfter : Nat) (s : State) : ((setClockRulesBody k tol coast lapseAfter s).1).light = s.light := by rw [setClockRulesBody_frame]
@[simp] theorem setClockRulesBody_line (k tol coast lapseAfter : Nat) (s : State) : ((setClockRulesBody k tol coast lapseAfter s).1).line = s.line := by rw [setClockRulesBody_frame]
@[simp] theorem setClockRulesBody_handler (k tol coast lapseAfter : Nat) (s : State) : ((setClockRulesBody k tol coast lapseAfter s).1).handler = s.handler := by rw [setClockRulesBody_frame]
@[simp] theorem setClockRulesBody_unit (k tol coast lapseAfter : Nat) (s : State) : ((setClockRulesBody k tol coast lapseAfter s).1).unit = s.unit := by rw [setClockRulesBody_frame]
@[simp] theorem setClockRulesBody_notices (k tol coast lapseAfter : Nat) (s : State) : ((setClockRulesBody k tol coast lapseAfter s).1).notices = s.notices := by rw [setClockRulesBody_frame]
@[simp] theorem setClockRulesBody_tickTaken (k tol coast lapseAfter : Nat) (s : State) : ((setClockRulesBody k tol coast lapseAfter s).1).tickTaken = s.tickTaken := by rw [setClockRulesBody_frame]
@[simp] theorem setClockRulesBody_subTaken (k tol coast lapseAfter : Nat) (s : State) : ((setClockRulesBody k tol coast lapseAfter s).1).subTaken = s.subTaken := by rw [setClockRulesBody_frame]
@[simp] theorem setClockRulesBody_pending (k tol coast lapseAfter : Nat) (s : State) : ((setClockRulesBody k tol coast lapseAfter s).1).pending = s.pending := by rw [setClockRulesBody_frame]

/-! ### setRetirementBody -/

theorem setRetirementBody_frame (margin : Nat) (s : State) :
    (setRetirementBody margin s).1 = { s with table := ((setRetirementBody margin s).1).table } := rfl

@[simp] theorem setRetirementBody_batch (margin : Nat) (s : State) : ((setRetirementBody margin s).1).batch = s.batch := by rw [setRetirementBody_frame]
@[simp] theorem setRetirementBody_sup (margin : Nat) (s : State) : ((setRetirementBody margin s).1).sup = s.sup := by rw [setRetirementBody_frame]
@[simp] theorem setRetirementBody_clock (margin : Nat) (s : State) : ((setRetirementBody margin s).1).clock = s.clock := by rw [setRetirementBody_frame]
@[simp] theorem setRetirementBody_board (margin : Nat) (s : State) : ((setRetirementBody margin s).1).board = s.board := by rw [setRetirementBody_frame]
@[simp] theorem setRetirementBody_overlays (margin : Nat) (s : State) : ((setRetirementBody margin s).1).overlays = s.overlays := by rw [setRetirementBody_frame]
@[simp] theorem setRetirementBody_phrases (margin : Nat) (s : State) : ((setRetirementBody margin s).1).phrases = s.phrases := by rw [setRetirementBody_frame]
@[simp] theorem setRetirementBody_fonts (margin : Nat) (s : State) : ((setRetirementBody margin s).1).fonts = s.fonts := by rw [setRetirementBody_frame]
@[simp] theorem setRetirementBody_coder (margin : Nat) (s : State) : ((setRetirementBody margin s).1).coder = s.coder := by rw [setRetirementBody_frame]
@[simp] theorem setRetirementBody_chain (margin : Nat) (s : State) : ((setRetirementBody margin s).1).chain = s.chain := by rw [setRetirementBody_frame]
@[simp] theorem setRetirementBody_light (margin : Nat) (s : State) : ((setRetirementBody margin s).1).light = s.light := by rw [setRetirementBody_frame]
@[simp] theorem setRetirementBody_line (margin : Nat) (s : State) : ((setRetirementBody margin s).1).line = s.line := by rw [setRetirementBody_frame]
@[simp] theorem setRetirementBody_handler (margin : Nat) (s : State) : ((setRetirementBody margin s).1).handler = s.handler := by rw [setRetirementBody_frame]
@[simp] theorem setRetirementBody_unit (margin : Nat) (s : State) : ((setRetirementBody margin s).1).unit = s.unit := by rw [setRetirementBody_frame]
@[simp] theorem setRetirementBody_notices (margin : Nat) (s : State) : ((setRetirementBody margin s).1).notices = s.notices := by rw [setRetirementBody_frame]
@[simp] theorem setRetirementBody_tickTaken (margin : Nat) (s : State) : ((setRetirementBody margin s).1).tickTaken = s.tickTaken := by rw [setRetirementBody_frame]
@[simp] theorem setRetirementBody_subTaken (margin : Nat) (s : State) : ((setRetirementBody margin s).1).subTaken = s.subTaken := by rw [setRetirementBody_frame]
@[simp] theorem setRetirementBody_pending (margin : Nat) (s : State) : ((setRetirementBody margin s).1).pending = s.pending := by rw [setRetirementBody_frame]

/-! ### setCountdownBody -/

theorem setCountdownBody_frame (raw : RawCountdown) (s : State) :
    (setCountdownBody raw s).1 = { s with table := ((setCountdownBody raw s).1).table, board := ((setCountdownBody raw s).1).board } := by
  simp only [setCountdownBody]
  (repeat' split) <;> rfl

@[simp] theorem setCountdownBody_batch (raw : RawCountdown) (s : State) : ((setCountdownBody raw s).1).batch = s.batch := by rw [setCountdownBody_frame]
@[simp] theorem setCountdownBody_sup (raw : RawCountdown) (s : State) : ((setCountdownBody raw s).1).sup = s.sup := by rw [setCountdownBody_frame]
@[simp] theorem setCountdownBody_clock (raw : RawCountdown) (s : State) : ((setCountdownBody raw s).1).clock = s.clock := by rw [setCountdownBody_frame]
@[simp] theorem setCountdownBody_overlays (raw : RawCountdown) (s : State) : ((setCountdownBody raw s).1).overlays = s.overlays := by rw [setCountdownBody_frame]
@[simp] theorem setCountdownBody_phrases (raw : RawCountdown) (s : State) : ((setCountdownBody raw s).1).phrases = s.phrases := by rw [setCountdownBody_frame]
@[simp] theorem setCountdownBody_fonts (raw : RawCountdown) (s : State) : ((setCountdownBody raw s).1).fonts = s.fonts := by rw [setCountdownBody_frame]
@[simp] theorem setCountdownBody_coder (raw : RawCountdown) (s : State) : ((setCountdownBody raw s).1).coder = s.coder := by rw [setCountdownBody_frame]
@[simp] theorem setCountdownBody_chain (raw : RawCountdown) (s : State) : ((setCountdownBody raw s).1).chain = s.chain := by rw [setCountdownBody_frame]
@[simp] theorem setCountdownBody_light (raw : RawCountdown) (s : State) : ((setCountdownBody raw s).1).light = s.light := by rw [setCountdownBody_frame]
@[simp] theorem setCountdownBody_line (raw : RawCountdown) (s : State) : ((setCountdownBody raw s).1).line = s.line := by rw [setCountdownBody_frame]
@[simp] theorem setCountdownBody_handler (raw : RawCountdown) (s : State) : ((setCountdownBody raw s).1).handler = s.handler := by rw [setCountdownBody_frame]
@[simp] theorem setCountdownBody_unit (raw : RawCountdown) (s : State) : ((setCountdownBody raw s).1).unit = s.unit := by rw [setCountdownBody_frame]
@[simp] theorem setCountdownBody_notices (raw : RawCountdown) (s : State) : ((setCountdownBody raw s).1).notices = s.notices := by rw [setCountdownBody_frame]
@[simp] theorem setCountdownBody_tickTaken (raw : RawCountdown) (s : State) : ((setCountdownBody raw s).1).tickTaken = s.tickTaken := by rw [setCountdownBody_frame]
@[simp] theorem setCountdownBody_subTaken (raw : RawCountdown) (s : State) : ((setCountdownBody raw s).1).subTaken = s.subTaken := by rw [setCountdownBody_frame]
@[simp] theorem setCountdownBody_pending (raw : RawCountdown) (s : State) : ((setCountdownBody raw s).1).pending = s.pending := by rw [setCountdownBody_frame]

/-! ### batchOpenBody -/

theorem batchOpenBody_frame (tag mode : Byte) (s : State) :
    (batchOpenBody tag mode s).1 = { s with batch := ((batchOpenBody tag mode s).1).batch, notices := ((batchOpenBody tag mode s).1).notices } := by
  simp only [batchOpenBody]
  (repeat' split) <;> rfl

@[simp] theorem batchOpenBody_table (tag mode : Byte) (s : State) : ((batchOpenBody tag mode s).1).table = s.table := by rw [batchOpenBody_frame]
@[simp] theorem batchOpenBody_sup (tag mode : Byte) (s : State) : ((batchOpenBody tag mode s).1).sup = s.sup := by rw [batchOpenBody_frame]
@[simp] theorem batchOpenBody_clock (tag mode : Byte) (s : State) : ((batchOpenBody tag mode s).1).clock = s.clock := by rw [batchOpenBody_frame]
@[simp] theorem batchOpenBody_board (tag mode : Byte) (s : State) : ((batchOpenBody tag mode s).1).board = s.board := by rw [batchOpenBody_frame]
@[simp] theorem batchOpenBody_overlays (tag mode : Byte) (s : State) : ((batchOpenBody tag mode s).1).overlays = s.overlays := by rw [batchOpenBody_frame]
@[simp] theorem batchOpenBody_phrases (tag mode : Byte) (s : State) : ((batchOpenBody tag mode s).1).phrases = s.phrases := by rw [batchOpenBody_frame]
@[simp] theorem batchOpenBody_fonts (tag mode : Byte) (s : State) : ((batchOpenBody tag mode s).1).fonts = s.fonts := by rw [batchOpenBody_frame]
@[simp] theorem batchOpenBody_coder (tag mode : Byte) (s : State) : ((batchOpenBody tag mode s).1).coder = s.coder := by rw [batchOpenBody_frame]
@[simp] theorem batchOpenBody_chain (tag mode : Byte) (s : State) : ((batchOpenBody tag mode s).1).chain = s.chain := by rw [batchOpenBody_frame]
@[simp] theorem batchOpenBody_light (tag mode : Byte) (s : State) : ((batchOpenBody tag mode s).1).light = s.light := by rw [batchOpenBody_frame]
@[simp] theorem batchOpenBody_line (tag mode : Byte) (s : State) : ((batchOpenBody tag mode s).1).line = s.line := by rw [batchOpenBody_frame]
@[simp] theorem batchOpenBody_handler (tag mode : Byte) (s : State) : ((batchOpenBody tag mode s).1).handler = s.handler := by rw [batchOpenBody_frame]
@[simp] theorem batchOpenBody_unit (tag mode : Byte) (s : State) : ((batchOpenBody tag mode s).1).unit = s.unit := by rw [batchOpenBody_frame]
@[simp] theorem batchOpenBody_tickTaken (tag mode : Byte) (s : State) : ((batchOpenBody tag mode s).1).tickTaken = s.tickTaken := by rw [batchOpenBody_frame]
@[simp] theorem batchOpenBody_subTaken (tag mode : Byte) (s : State) : ((batchOpenBody tag mode s).1).subTaken = s.subTaken := by rw [batchOpenBody_frame]
@[simp] theorem batchOpenBody_pending (tag mode : Byte) (s : State) : ((batchOpenBody tag mode s).1).pending = s.pending := by rw [batchOpenBody_frame]

/-! ### stageRequest -/

theorem stageRequest_frame (c : Option Change) (s : State) :
    (stageRequest c s).1 = { s with batch := ((stageRequest c s).1).batch } := by
  unfold stageRequest
  (repeat' split) <;> rfl

@[simp] theorem stageRequest_table (c : Option Change) (s : State) : ((stageRequest c s).1).table = s.table := by rw [stageRequest_frame]
@[simp] theorem stageRequest_sup (c : Option Change) (s : State) : ((stageRequest c s).1).sup = s.sup := by rw [stageRequest_frame]
@[simp] theorem stageRequest_clock (c : Option Change) (s : State) : ((stageRequest c s).1).clock = s.clock := by rw [stageRequest_frame]
@[simp] theorem stageRequest_board (c : Option Change) (s : State) : ((stageRequest c s).1).board = s.board := by rw [stageRequest_frame]
@[simp] theorem stageRequest_overlays (c : Option Change) (s : State) : ((stageRequest c s).1).overlays = s.overlays := by rw [stageRequest_frame]
@[simp] theorem stageRequest_phrases (c : Option Change) (s : State) : ((stageRequest c s).1).phrases = s.phrases := by rw [stageRequest_frame]
@[simp] theorem stageRequest_fonts (c : Option Change) (s : State) : ((stageRequest c s).1).fonts = s.fonts := by rw [stageRequest_frame]
@[simp] theorem stageRequest_coder (c : Option Change) (s : State) : ((stageRequest c s).1).coder = s.coder := by rw [stageRequest_frame]
@[simp] theorem stageRequest_chain (c : Option Change) (s : State) : ((stageRequest c s).1).chain = s.chain := by rw [stageRequest_frame]
@[simp] theorem stageRequest_light (c : Option Change) (s : State) : ((stageRequest c s).1).light = s.light := by rw [stageRequest_frame]
@[simp] theorem stageRequest_line (c : Option Change) (s : State) : ((stageRequest c s).1).line = s.line := by rw [stageRequest_frame]
@[simp] theorem stageRequest_handler (c : Option Change) (s : State) : ((stageRequest c s).1).handler = s.handler := by rw [stageRequest_frame]
@[simp] theorem stageRequest_unit (c : Option Change) (s : State) : ((stageRequest c s).1).unit = s.unit := by rw [stageRequest_frame]
@[simp] theorem stageRequest_notices (c : Option Change) (s : State) : ((stageRequest c s).1).notices = s.notices := by rw [stageRequest_frame]
@[simp] theorem stageRequest_tickTaken (c : Option Change) (s : State) : ((stageRequest c s).1).tickTaken = s.tickTaken := by rw [stageRequest_frame]
@[simp] theorem stageRequest_subTaken (c : Option Change) (s : State) : ((stageRequest c s).1).subTaken = s.subTaken := by rw [stageRequest_frame]
@[simp] theorem stageRequest_pending (c : Option Change) (s : State) : ((stageRequest c s).1).pending = s.pending := by rw [stageRequest_frame]

/-! ### closeGood -/

theorem closeGood_frame (b : Batch) (s : State) :
    (closeGood b s).1 = { s with table := ((closeGood b s).1).table, batch := ((closeGood b s).1).batch, sup := ((closeGood b s).1).sup, board := ((closeGood b s).1).board, notices := ((closeGood b s).1).notices } := by
  simp only [closeGood]
  rw [goodClose_frame, offerAll_frame]
  rfl

@[simp] theorem closeGood_clock (b : Batch) (s : State) : ((closeGood b s).1).clock = s.clock := by rw [closeGood_frame]
@[simp] theorem closeGood_overlays (b : Batch) (s : State) : ((closeGood b s).1).overlays = s.overlays := by rw [closeGood_frame]
@[simp] theorem closeGood_phrases (b : Batch) (s : State) : ((closeGood b s).1).phrases = s.phrases := by rw [closeGood_frame]
@[simp] theorem closeGood_fonts (b : Batch) (s : State) : ((closeGood b s).1).fonts = s.fonts := by rw [closeGood_frame]
@[simp] theorem closeGood_coder (b : Batch) (s : State) : ((closeGood b s).1).coder = s.coder := by rw [closeGood_frame]
@[simp] theorem closeGood_chain (b : Batch) (s : State) : ((closeGood b s).1).chain = s.chain := by rw [closeGood_frame]
@[simp] theorem closeGood_light (b : Batch) (s : State) : ((closeGood b s).1).light = s.light := by rw [closeGood_frame]
@[simp] theorem closeGood_line (b : Batch) (s : State) : ((closeGood b s).1).line = s.line := by rw [closeGood_frame]
@[simp] theorem closeGood_handler (b : Batch) (s : State) : ((closeGood b s).1).handler = s.handler := by rw [closeGood_frame]
@[simp] theorem closeGood_unit (b : Batch) (s : State) : ((closeGood b s).1).unit = s.unit := by rw [closeGood_frame]
@[simp] theorem closeGood_tickTaken (b : Batch) (s : State) : ((closeGood b s).1).tickTaken = s.tickTaken := by rw [closeGood_frame]
@[simp] theorem closeGood_subTaken (b : Batch) (s : State) : ((closeGood b s).1).subTaken = s.subTaken := by rw [closeGood_frame]
@[simp] theorem closeGood_pending (b : Batch) (s : State) : ((closeGood b s).1).pending = s.pending := by rw [closeGood_frame]

/-! ### batchCloseBody -/

theorem batchCloseBody_frame (tag : Byte) (s : State) :
    (batchCloseBody tag s).1 = { s with table := ((batchCloseBody tag s).1).table, batch := ((batchCloseBody tag s).1).batch, sup := ((batchCloseBody tag s).1).sup, board := ((batchCloseBody tag s).1).board, notices := ((batchCloseBody tag s).1).notices } := by
  unfold batchCloseBody
  (repeat' split) <;> (try rw [closeGood_frame]) <;> (try rw [badClose_frame]) <;> rfl

@[simp] theorem batchCloseBody_clock (tag : Byte) (s : State) : ((batchCloseBody tag s).1).clock = s.clock := by rw [batchCloseBody_frame]
@[simp] theorem batchCloseBody_overlays (tag : Byte) (s : State) : ((batchCloseBody tag s).1).overlays = s.overlays := by rw [batchCloseBody_frame]
@[simp] theorem batchCloseBody_phrases (tag : Byte) (s : State) : ((batchCloseBody tag s).1).phrases = s.phrases := by rw [batchCloseBody_frame]
@[simp] theorem batchCloseBody_fonts (tag : Byte) (s : State) : ((batchCloseBody tag s).1).fonts = s.fonts := by rw [batchCloseBody_frame]
@[simp] theorem batchCloseBody_coder (tag : Byte) (s : State) : ((batchCloseBody tag s).1).coder = s.coder := by rw [batchCloseBody_frame]
@[simp] theorem batchCloseBody_chain (tag : Byte) (s : State) : ((batchCloseBody tag s).1).chain = s.chain := by rw [batchCloseBody_frame]
@[simp] theorem batchCloseBody_light (tag : Byte) (s : State) : ((batchCloseBody tag s).1).light = s.light := by rw [batchCloseBody_frame]
@[simp] theorem batchCloseBody_line (tag : Byte) (s : State) : ((batchCloseBody tag s).1).line = s.line := by rw [batchCloseBody_frame]
@[simp] theorem batchCloseBody_handler (tag : Byte) (s : State) : ((batchCloseBody tag s).1).handler = s.handler := by rw [batchCloseBody_frame]
@[simp] theorem batchCloseBody_unit (tag : Byte) (s : State) : ((batchCloseBody tag s).1).unit = s.unit := by rw [batchCloseBody_frame]
@[simp] theorem batchCloseBody_tickTaken (tag : Byte) (s : State) : ((batchCloseBody tag s).1).tickTaken = s.tickTaken := by rw [batchCloseBody_frame]
@[simp] theorem batchCloseBody_subTaken (tag : Byte) (s : State) : ((batchCloseBody tag s).1).subTaken = s.subTaken := by rw [batchCloseBody_frame]
@[simp] theorem batchCloseBody_pending (tag : Byte) (s : State) : ((batchCloseBody tag s).1).pending = s.pending := by rw [batchCloseBody_frame]

/-! ### setWindowsBody -/

theorem setWindowsBody_frame (gap total : Byte) (s : State) :
    (setWindowsBody gap total s).1 = { s with batch := ((setWindowsBody gap total s).1).batch } := rfl

@[simp] theorem setWindowsBody_table (gap total : Byte) (s : State) : ((setWindowsBody gap total s).1).table = s.table := by rw [setWindowsBody_frame]
@[simp] theorem setWindowsBody_sup (gap total : Byte) (s : State) : ((setWindowsBody gap total s).1).sup = s.sup := by rw [setWindowsBody_frame]
@[simp] theorem setWindowsBody_clock (gap total : Byte) (s : State) : ((setWindowsBody gap total s).1).clock = s.clock := by rw [setWindowsBody_frame]
@[simp] theorem setWindowsBody_board (gap total : Byte) (s : State) : ((setWindowsBody gap total s).1).board = s.board := by rw [setWindowsBody_frame]
@[simp] theorem setWindowsBody_overlays (gap total : Byte) (s : State) : ((setWindowsBody gap total s).1).overlays = s.overlays := by rw [setWindowsBody_frame]
@[simp] theorem setWindowsBody_phrases (gap total : Byte) (s : State) : ((setWindowsBody gap total s).1).phrases = s.phrases := by rw [setWindowsBody_frame]
@[simp] theorem setWindowsBody_fonts (gap total : Byte) (s : State) : ((setWindowsBody gap total s).1).fonts = s.fonts := by rw [setWindowsBody_frame]
@[simp] theorem setWindowsBody_coder (gap total : Byte) (s : State) : ((setWindowsBody gap total s).1).coder = s.coder := by rw [setWindowsBody_frame]
@[simp] theorem setWindowsBody_chain (gap total : Byte) (s : State) : ((setWindowsBody gap total s).1).chain = s.chain := by rw [setWindowsBody_frame]
@[simp] theorem setWindowsBody_light (gap total : Byte) (s : State) : ((setWindowsBody gap total s).1).light = s.light := by rw [setWindowsBody_frame]
@[simp] theorem setWindowsBody_line (gap total : Byte) (s : State) : ((setWindowsBody gap total s).1).line = s.line := by rw [setWindowsBody_frame]
@[simp] theorem setWindowsBody_handler (gap total : Byte) (s : State) : ((setWindowsBody gap total s).1).handler = s.handler := by rw [setWindowsBody_frame]
@[simp] theorem setWindowsBody_unit (gap total : Byte) (s : State) : ((setWindowsBody gap total s).1).unit = s.unit := by rw [setWindowsBody_frame]
@[simp] theorem setWindowsBody_notices (gap total : Byte) (s : State) : ((setWindowsBody gap total s).1).notices = s.notices := by rw [setWindowsBody_frame]
@[simp] theorem setWindowsBody_tickTaken (gap total : Byte) (s : State) : ((setWindowsBody gap total s).1).tickTaken = s.tickTaken := by rw [setWindowsBody_frame]
@[simp] theorem setWindowsBody_subTaken (gap total : Byte) (s : State) : ((setWindowsBody gap total s).1).subTaken = s.subTaken := by rw [setWindowsBody_frame]
@[simp] theorem setWindowsBody_pending (gap total : Byte) (s : State) : ((setWindowsBody gap total s).1).pending = s.pending := by rw [setWindowsBody_frame]

/-! ### setSupervisorBody -/

theorem setSupervisorBody_frame (period : BitVec 16) (action hold arm : Byte) (s : State) :
    (setSupervisorBody period action hold arm s).1 = { s with sup := ((setSupervisorBody period action hold arm s).1).sup } := by
  unfold setSupervisorBody
  (repeat' split) <;> rfl

@[simp] theorem setSupervisorBody_table (period : BitVec 16) (action hold arm : Byte) (s : State) : ((setSupervisorBody period action hold arm s).1).table = s.table := by rw [setSupervisorBody_frame]
@[simp] theorem setSupervisorBody_batch (period : BitVec 16) (action hold arm : Byte) (s : State) : ((setSupervisorBody period action hold arm s).1).batch = s.batch := by rw [setSupervisorBody_frame]
@[simp] theorem setSupervisorBody_clock (period : BitVec 16) (action hold arm : Byte) (s : State) : ((setSupervisorBody period action hold arm s).1).clock = s.clock := by rw [setSupervisorBody_frame]
@[simp] theorem setSupervisorBody_board (period : BitVec 16) (action hold arm : Byte) (s : State) : ((setSupervisorBody period action hold arm s).1).board = s.board := by rw [setSupervisorBody_frame]
@[simp] theorem setSupervisorBody_overlays (period : BitVec 16) (action hold arm : Byte) (s : State) : ((setSupervisorBody period action hold arm s).1).overlays = s.overlays := by rw [setSupervisorBody_frame]
@[simp] theorem setSupervisorBody_phrases (period : BitVec 16) (action hold arm : Byte) (s : State) : ((setSupervisorBody period action hold arm s).1).phrases = s.phrases := by rw [setSupervisorBody_frame]
@[simp] theorem setSupervisorBody_fonts (period : BitVec 16) (action hold arm : Byte) (s : State) : ((setSupervisorBody period action hold arm s).1).fonts = s.fonts := by rw [setSupervisorBody_frame]
@[simp] theorem setSupervisorBody_coder (period : BitVec 16) (action hold arm : Byte) (s : State) : ((setSupervisorBody period action hold arm s).1).coder = s.coder := by rw [setSupervisorBody_frame]
@[simp] theorem setSupervisorBody_chain (period : BitVec 16) (action hold arm : Byte) (s : State) : ((setSupervisorBody period action hold arm s).1).chain = s.chain := by rw [setSupervisorBody_frame]
@[simp] theorem setSupervisorBody_light (period : BitVec 16) (action hold arm : Byte) (s : State) : ((setSupervisorBody period action hold arm s).1).light = s.light := by rw [setSupervisorBody_frame]
@[simp] theorem setSupervisorBody_line (period : BitVec 16) (action hold arm : Byte) (s : State) : ((setSupervisorBody period action hold arm s).1).line = s.line := by rw [setSupervisorBody_frame]
@[simp] theorem setSupervisorBody_handler (period : BitVec 16) (action hold arm : Byte) (s : State) : ((setSupervisorBody period action hold arm s).1).handler = s.handler := by rw [setSupervisorBody_frame]
@[simp] theorem setSupervisorBody_unit (period : BitVec 16) (action hold arm : Byte) (s : State) : ((setSupervisorBody period action hold arm s).1).unit = s.unit := by rw [setSupervisorBody_frame]
@[simp] theorem setSupervisorBody_notices (period : BitVec 16) (action hold arm : Byte) (s : State) : ((setSupervisorBody period action hold arm s).1).notices = s.notices := by rw [setSupervisorBody_frame]
@[simp] theorem setSupervisorBody_tickTaken (period : BitVec 16) (action hold arm : Byte) (s : State) : ((setSupervisorBody period action hold arm s).1).tickTaken = s.tickTaken := by rw [setSupervisorBody_frame]
@[simp] theorem setSupervisorBody_subTaken (period : BitVec 16) (action hold arm : Byte) (s : State) : ((setSupervisorBody period action hold arm s).1).subTaken = s.subTaken := by rw [setSupervisorBody_frame]
@[simp] theorem setSupervisorBody_pending (period : BitVec 16) (action hold arm : Byte) (s : State) : ((setSupervisorBody period action hold arm s).1).pending = s.pending := by rw [setSupervisorBody_frame]

/-! ### setBoardBody -/

theorem setBoardBody_frame (w h n : Nat) (s : State) :
    (setBoardBody w h n s).1 = { s with table := ((setBoardBody w h n s).1).table, board := ((setBoardBody w h n s).1).board, coder := ((setBoardBody w h n s).1).coder, chain := ((setBoardBody w h n s).1).chain } := by
  unfold setBoardBody
  (repeat' split) <;> (try rw [recompute_frame]) <;> (try rw [chainDeclare_frame]) <;> rfl

@[simp] theorem setBoardBody_batch (w h n : Nat) (s : State) : ((setBoardBody w h n s).1).batch = s.batch := by rw [setBoardBody_frame]
@[simp] theorem setBoardBody_sup (w h n : Nat) (s : State) : ((setBoardBody w h n s).1).sup = s.sup := by rw [setBoardBody_frame]
@[simp] theorem setBoardBody_clock (w h n : Nat) (s : State) : ((setBoardBody w h n s).1).clock = s.clock := by rw [setBoardBody_frame]
@[simp] theorem setBoardBody_overlays (w h n : Nat) (s : State) : ((setBoardBody w h n s).1).overlays = s.overlays := by rw [setBoardBody_frame]
@[simp] theorem setBoardBody_phrases (w h n : Nat) (s : State) : ((setBoardBody w h n s).1).phrases = s.phrases := by rw [setBoardBody_frame]
@[simp] theorem setBoardBody_fonts (w h n : Nat) (s : State) : ((setBoardBody w h n s).1).fonts = s.fonts := by rw [setBoardBody_frame]
@[simp] theorem setBoardBody_light (w h n : Nat) (s : State) : ((setBoardBody w h n s).1).light = s.light := by rw [setBoardBody_frame]
@[simp] theorem setBoardBody_line (w h n : Nat) (s : State) : ((setBoardBody w h n s).1).line = s.line := by rw [setBoardBody_frame]
@[simp] theorem setBoardBody_handler (w h n : Nat) (s : State) : ((setBoardBody w h n s).1).handler = s.handler := by rw [setBoardBody_frame]
@[simp] theorem setBoardBody_unit (w h n : Nat) (s : State) : ((setBoardBody w h n s).1).unit = s.unit := by rw [setBoardBody_frame]
@[simp] theorem setBoardBody_notices (w h n : Nat) (s : State) : ((setBoardBody w h n s).1).notices = s.notices := by rw [setBoardBody_frame]
@[simp] theorem setBoardBody_tickTaken (w h n : Nat) (s : State) : ((setBoardBody w h n s).1).tickTaken = s.tickTaken := by rw [setBoardBody_frame]
@[simp] theorem setBoardBody_subTaken (w h n : Nat) (s : State) : ((setBoardBody w h n s).1).subTaken = s.subTaken := by rw [setBoardBody_frame]
@[simp] theorem setBoardBody_pending (w h n : Nat) (s : State) : ((setBoardBody w h n s).1).pending = s.pending := by rw [setBoardBody_frame]

/-! ### setPanelBody -/

theorem setPanelBody_frame (r : RawPanel) (s : State) :
    (setPanelBody r s).1 = { s with board := ((setPanelBody r s).1).board, coder := ((setPanelBody r s).1).coder, chain := ((setPanelBody r s).1).chain } := by
  simp only [setPanelBody]
  (repeat' split) <;> (try rw [placePanel_frame]) <;> rfl

@[simp] theorem setPanelBody_table (r : RawPanel) (s : State) : ((setPanelBody r s).1).table = s.table := by rw [setPanelBody_frame]
@[simp] theorem setPanelBody_batch (r : RawPanel) (s : State) : ((setPanelBody r s).1).batch = s.batch := by rw [setPanelBody_frame]
@[simp] theorem setPanelBody_sup (r : RawPanel) (s : State) : ((setPanelBody r s).1).sup = s.sup := by rw [setPanelBody_frame]
@[simp] theorem setPanelBody_clock (r : RawPanel) (s : State) : ((setPanelBody r s).1).clock = s.clock := by rw [setPanelBody_frame]
@[simp] theorem setPanelBody_overlays (r : RawPanel) (s : State) : ((setPanelBody r s).1).overlays = s.overlays := by rw [setPanelBody_frame]
@[simp] theorem setPanelBody_phrases (r : RawPanel) (s : State) : ((setPanelBody r s).1).phrases = s.phrases := by rw [setPanelBody_frame]
@[simp] theorem setPanelBody_fonts (r : RawPanel) (s : State) : ((setPanelBody r s).1).fonts = s.fonts := by rw [setPanelBody_frame]
@[simp] theorem setPanelBody_light (r : RawPanel) (s : State) : ((setPanelBody r s).1).light = s.light := by rw [setPanelBody_frame]
@[simp] theorem setPanelBody_line (r : RawPanel) (s : State) : ((setPanelBody r s).1).line = s.line := by rw [setPanelBody_frame]
@[simp] theorem setPanelBody_handler (r : RawPanel) (s : State) : ((setPanelBody r s).1).handler = s.handler := by rw [setPanelBody_frame]
@[simp] theorem setPanelBody_unit (r : RawPanel) (s : State) : ((setPanelBody r s).1).unit = s.unit := by rw [setPanelBody_frame]
@[simp] theorem setPanelBody_notices (r : RawPanel) (s : State) : ((setPanelBody r s).1).notices = s.notices := by rw [setPanelBody_frame]
@[simp] theorem setPanelBody_tickTaken (r : RawPanel) (s : State) : ((setPanelBody r s).1).tickTaken = s.tickTaken := by rw [setPanelBody_frame]
@[simp] theorem setPanelBody_subTaken (r : RawPanel) (s : State) : ((setPanelBody r s).1).subTaken = s.subTaken := by rw [setPanelBody_frame]
@[simp] theorem setPanelBody_pending (r : RawPanel) (s : State) : ((setPanelBody r s).1).pending = s.pending := by rw [setPanelBody_frame]

/-! ### setModeBody -/

theorem setModeBody_frame (mode : Byte) (s : State) :
    (setModeBody mode s).1 = { s with board := ((setModeBody mode s).1).board, coder := ((setModeBody mode s).1).coder, chain := ((setModeBody mode s).1).chain } := by
  simp only [setModeBody]
  (repeat' split) <;> (try rw [settle_frame]) <;> (try rw [enterMode_frame]) <;> rfl

@[simp] theorem setModeBody_table (mode : Byte) (s : State) : ((setModeBody mode s).1).table = s.table := by rw [setModeBody_frame]
@[simp] theorem setModeBody_batch (mode : Byte) (s : State) : ((setModeBody mode s).1).batch = s.batch := by rw [setModeBody_frame]
@[simp] theorem setModeBody_sup (mode : Byte) (s : State) : ((setModeBody mode s).1).sup = s.sup := by rw [setModeBody_frame]
@[simp] theorem setModeBody_clock (mode : Byte) (s : State) : ((setModeBody mode s).1).clock = s.clock := by rw [setModeBody_frame]
@[simp] theorem setModeBody_overlays (mode : Byte) (s : State) : ((setModeBody mode s).1).overlays = s.overlays := by rw [setModeBody_frame]
@[simp] theorem setModeBody_phrases (mode : Byte) (s : State) : ((setModeBody mode s).1).phrases = s.phrases := by rw [setModeBody_frame]
@[simp] theorem setModeBody_fonts (mode : Byte) (s : State) : ((setModeBody mode s).1).fonts = s.fonts := by rw [setModeBody_frame]
@[simp] theorem setModeBody_light (mode : Byte) (s : State) : ((setModeBody mode s).1).light = s.light := by rw [setModeBody_frame]
@[simp] theorem setModeBody_line (mode : Byte) (s : State) : ((setModeBody mode s).1).line = s.line := by rw [setModeBody_frame]
@[simp] theorem setModeBody_handler (mode : Byte) (s : State) : ((setModeBody mode s).1).handler = s.handler := by rw [setModeBody_frame]
@[simp] theorem setModeBody_unit (mode : Byte) (s : State) : ((setModeBody mode s).1).unit = s.unit := by rw [setModeBody_frame]
@[simp] theorem setModeBody_notices (mode : Byte) (s : State) : ((setModeBody mode s).1).notices = s.notices := by rw [setModeBody_frame]
@[simp] theorem setModeBody_tickTaken (mode : Byte) (s : State) : ((setModeBody mode s).1).tickTaken = s.tickTaken := by rw [setModeBody_frame]
@[simp] theorem setModeBody_subTaken (mode : Byte) (s : State) : ((setModeBody mode s).1).subTaken = s.subTaken := by rw [setModeBody_frame]
@[simp] theorem setModeBody_pending (mode : Byte) (s : State) : ((setModeBody mode s).1).pending = s.pending := by rw [setModeBody_frame]

/-! ### setPageBody -/

theorem setPageBody_frame (index dwell language skip : Byte) (lines : List RawLine) (s : State) :
    (setPageBody index dwell language skip lines s).1 = { s with board := ((setPageBody index dwell language skip lines s).1).board } := by
  simp only [setPageBody]
  (repeat' split) <;> (try rw [storePage_frame]) <;> rfl

@[simp] theorem setPageBody_table (index dwell language skip : Byte) (lines : List RawLine) (s : State) : ((setPageBody index dwell language skip lines s).1).table = s.table := by rw [setPageBody_frame]
@[simp] theorem setPageBody_batch (index dwell language skip : Byte) (lines : List RawLine) (s : State) : ((setPageBody index dwell language skip lines s).1).batch = s.batch := by rw [setPageBody_frame]
@[simp] theorem setPageBody_sup (index dwell language skip : Byte) (lines : List RawLine) (s : State) : ((setPageBody index dwell language skip lines s).1).sup = s.sup := by rw [setPageBody_frame]
@[simp] theorem setPageBody_clock (index dwell language skip : Byte) (lines : List RawLine) (s : State) : ((setPageBody index dwell language skip lines s).1).clock = s.clock := by rw [setPageBody_frame]
@[simp] theorem setPageBody_overlays (index dwell language skip : Byte) (lines : List RawLine) (s : State) : ((setPageBody index dwell language skip lines s).1).overlays = s.overlays := by rw [setPageBody_frame]
@[simp] theorem setPageBody_phrases (index dwell language skip : Byte) (lines : List RawLine) (s : State) : ((setPageBody index dwell language skip lines s).1).phrases = s.phrases := by rw [setPageBody_frame]
@[simp] theorem setPageBody_fonts (index dwell language skip : Byte) (lines : List RawLine) (s : State) : ((setPageBody index dwell language skip lines s).1).fonts = s.fonts := by rw [setPageBody_frame]
@[simp] theorem setPageBody_coder (index dwell language skip : Byte) (lines : List RawLine) (s : State) : ((setPageBody index dwell language skip lines s).1).coder = s.coder := by rw [setPageBody_frame]
@[simp] theorem setPageBody_chain (index dwell language skip : Byte) (lines : List RawLine) (s : State) : ((setPageBody index dwell language skip lines s).1).chain = s.chain := by rw [setPageBody_frame]
@[simp] theorem setPageBody_light (index dwell language skip : Byte) (lines : List RawLine) (s : State) : ((setPageBody index dwell language skip lines s).1).light = s.light := by rw [setPageBody_frame]
@[simp] theorem setPageBody_line (index dwell language skip : Byte) (lines : List RawLine) (s : State) : ((setPageBody index dwell language skip lines s).1).line = s.line := by rw [setPageBody_frame]
@[simp] theorem setPageBody_handler (index dwell language skip : Byte) (lines : List RawLine) (s : State) : ((setPageBody index dwell language skip lines s).1).handler = s.handler := by rw [setPageBody_frame]
@[simp] theorem setPageBody_unit (index dwell language skip : Byte) (lines : List RawLine) (s : State) : ((setPageBody index dwell language skip lines s).1).unit = s.unit := by rw [setPageBody_frame]
@[simp] theorem setPageBody_notices (index dwell language skip : Byte) (lines : List RawLine) (s : State) : ((setPageBody index dwell language skip lines s).1).notices = s.notices := by rw [setPageBody_frame]
@[simp] theorem setPageBody_tickTaken (index dwell language skip : Byte) (lines : List RawLine) (s : State) : ((setPageBody index dwell language skip lines s).1).tickTaken = s.tickTaken := by rw [setPageBody_frame]
@[simp] theorem setPageBody_subTaken (index dwell language skip : Byte) (lines : List RawLine) (s : State) : ((setPageBody index dwell language skip lines s).1).subTaken = s.subTaken := by rw [setPageBody_frame]
@[simp] theorem setPageBody_pending (index dwell language skip : Byte) (lines : List RawLine) (s : State) : ((setPageBody index dwell language skip lines s).1).pending = s.pending := by rw [setPageBody_frame]

/-! ### pushOverlayBody -/

theorem pushOverlayBody_frame (raw : RawOverlay) (s : State) :
    (pushOverlayBody raw s).1 = { s with board := ((pushOverlayBody raw s).1).board, overlays := ((pushOverlayBody raw s).1).overlays, coder := ((pushOverlayBody raw s).1).coder, chain := ((pushOverlayBody raw s).1).chain, notices := ((pushOverlayBody raw s).1).notices } := by
  simp only [pushOverlayBody]
  (repeat' split) <;> (try rw [overlayRender_frame]) <;> (try rw [offerDisplaced_frame]) <;> rfl

@[simp] theorem pushOverlayBody_table (raw : RawOverlay) (s : State) : ((pushOverlayBody raw s).1).table = s.table := by rw [pushOverlayBody_frame]
@[simp] theorem pushOverlayBody_batch (raw : RawOverlay) (s : State) : ((pushOverlayBody raw s).1).batch = s.batch := by rw [pushOverlayBody_frame]
@[simp] theorem pushOverlayBody_sup (raw : RawOverlay) (s : State) : ((pushOverlayBody raw s).1).sup = s.sup := by rw [pushOverlayBody_frame]
@[simp] theorem pushOverlayBody_clock (raw : RawOverlay) (s : State) : ((pushOverlayBody raw s).1).clock = s.clock := by rw [pushOverlayBody_frame]
@[simp] theorem pushOverlayBody_phrases (raw : RawOverlay) (s : State) : ((pushOverlayBody raw s).1).phrases = s.phrases := by rw [pushOverlayBody_frame]
@[simp] theorem pushOverlayBody_fonts (raw : RawOverlay) (s : State) : ((pushOverlayBody raw s).1).fonts = s.fonts := by rw [pushOverlayBody_frame]
@[simp] theorem pushOverlayBody_light (raw : RawOverlay) (s : State) : ((pushOverlayBody raw s).1).light = s.light := by rw [pushOverlayBody_frame]
@[simp] theorem pushOverlayBody_line (raw : RawOverlay) (s : State) : ((pushOverlayBody raw s).1).line = s.line := by rw [pushOverlayBody_frame]
@[simp] theorem pushOverlayBody_handler (raw : RawOverlay) (s : State) : ((pushOverlayBody raw s).1).handler = s.handler := by rw [pushOverlayBody_frame]
@[simp] theorem pushOverlayBody_unit (raw : RawOverlay) (s : State) : ((pushOverlayBody raw s).1).unit = s.unit := by rw [pushOverlayBody_frame]
@[simp] theorem pushOverlayBody_tickTaken (raw : RawOverlay) (s : State) : ((pushOverlayBody raw s).1).tickTaken = s.tickTaken := by rw [pushOverlayBody_frame]
@[simp] theorem pushOverlayBody_subTaken (raw : RawOverlay) (s : State) : ((pushOverlayBody raw s).1).subTaken = s.subTaken := by rw [pushOverlayBody_frame]
@[simp] theorem pushOverlayBody_pending (raw : RawOverlay) (s : State) : ((pushOverlayBody raw s).1).pending = s.pending := by rw [pushOverlayBody_frame]

/-! ### withdrawBody -/

theorem withdrawBody_frame (id : Nat) (s : State) :
    (withdrawBody id s).1 = { s with board := ((withdrawBody id s).1).board, overlays := ((withdrawBody id s).1).overlays, coder := ((withdrawBody id s).1).coder, chain := ((withdrawBody id s).1).chain } := by
  simp only [withdrawBody]
  (repeat' split) <;> (try rw [overlayRender_frame]) <;> rfl

@[simp] theorem withdrawBody_table (id : Nat) (s : State) : ((withdrawBody id s).1).table = s.table := by rw [withdrawBody_frame]
@[simp] theorem withdrawBody_batch (id : Nat) (s : State) : ((withdrawBody id s).1).batch = s.batch := by rw [withdrawBody_frame]
@[simp] theorem withdrawBody_sup (id : Nat) (s : State) : ((withdrawBody id s).1).sup = s.sup := by rw [withdrawBody_frame]
@[simp] theorem withdrawBody_clock (id : Nat) (s : State) : ((withdrawBody id s).1).clock = s.clock := by rw [withdrawBody_frame]
@[simp] theorem withdrawBody_phrases (id : Nat) (s : State) : ((withdrawBody id s).1).phrases = s.phrases := by rw [withdrawBody_frame]
@[simp] theorem withdrawBody_fonts (id : Nat) (s : State) : ((withdrawBody id s).1).fonts = s.fonts := by rw [withdrawBody_frame]
@[simp] theorem withdrawBody_light (id : Nat) (s : State) : ((withdrawBody id s).1).light = s.light := by rw [withdrawBody_frame]
@[simp] theorem withdrawBody_line (id : Nat) (s : State) : ((withdrawBody id s).1).line = s.line := by rw [withdrawBody_frame]
@[simp] theorem withdrawBody_handler (id : Nat) (s : State) : ((withdrawBody id s).1).handler = s.handler := by rw [withdrawBody_frame]
@[simp] theorem withdrawBody_unit (id : Nat) (s : State) : ((withdrawBody id s).1).unit = s.unit := by rw [withdrawBody_frame]
@[simp] theorem withdrawBody_notices (id : Nat) (s : State) : ((withdrawBody id s).1).notices = s.notices := by rw [withdrawBody_frame]
@[simp] theorem withdrawBody_tickTaken (id : Nat) (s : State) : ((withdrawBody id s).1).tickTaken = s.tickTaken := by rw [withdrawBody_frame]
@[simp] theorem withdrawBody_subTaken (id : Nat) (s : State) : ((withdrawBody id s).1).subTaken = s.subTaken := by rw [withdrawBody_frame]
@[simp] theorem withdrawBody_pending (id : Nat) (s : State) : ((withdrawBody id s).1).pending = s.pending := by rw [withdrawBody_frame]

/-! ### setPhraseBody -/

theorem setPhraseBody_frame (id : Nat) (a b c : List Byte) (s : State) :
    (setPhraseBody id a b c s).1 = { s with phrases := ((setPhraseBody id a b c s).1).phrases } := by
  simp only [setPhraseBody]
  (repeat' split) <;> rfl

@[simp] theorem setPhraseBody_table (id : Nat) (a b c : List Byte) (s : State) : ((setPhraseBody id a b c s).1).table = s.table := by rw [setPhraseBody_frame]
@[simp] theorem setPhraseBody_batch (id : Nat) (a b c : List Byte) (s : State) : ((setPhraseBody id a b c s).1).batch = s.batch := by rw [setPhraseBody_frame]
@[simp] theorem setPhraseBody_sup (id : Nat) (a b c : List Byte) (s : State) : ((setPhraseBody id a b c s).1).sup = s.sup := by rw [setPhraseBody_frame]
@[simp] theorem setPhraseBody_clock (id : Nat) (a b c : List Byte) (s : State) : ((setPhraseBody id a b c s).1).clock = s.clock := by rw [setPhraseBody_frame]
@[simp] theorem setPhraseBody_board (id : Nat) (a b c : List Byte) (s : State) : ((setPhraseBody id a b c s).1).board = s.board := by rw [setPhraseBody_frame]
@[simp] theorem setPhraseBody_overlays (id : Nat) (a b c : List Byte) (s : State) : ((setPhraseBody id a b c s).1).overlays = s.overlays := by rw [setPhraseBody_frame]
@[simp] theorem setPhraseBody_fonts (id : Nat) (a b c : List Byte) (s : State) : ((setPhraseBody id a b c s).1).fonts = s.fonts := by rw [setPhraseBody_frame]
@[simp] theorem setPhraseBody_coder (id : Nat) (a b c : List Byte) (s : State) : ((setPhraseBody id a b c s).1).coder = s.coder := by rw [setPhraseBody_frame]
@[simp] theorem setPhraseBody_chain (id : Nat) (a b c : List Byte) (s : State) : ((setPhraseBody id a b c s).1).chain = s.chain := by rw [setPhraseBody_frame]
@[simp] theorem setPhraseBody_light (id : Nat) (a b c : List Byte) (s : State) : ((setPhraseBody id a b c s).1).light = s.light := by rw [setPhraseBody_frame]
@[simp] theorem setPhraseBody_line (id : Nat) (a b c : List Byte) (s : State) : ((setPhraseBody id a b c s).1).line = s.line := by rw [setPhraseBody_frame]
@[simp] theorem setPhraseBody_handler (id : Nat) (a b c : List Byte) (s : State) : ((setPhraseBody id a b c s).1).handler = s.handler := by rw [setPhraseBody_frame]
@[simp] theorem setPhraseBody_unit (id : Nat) (a b c : List Byte) (s : State) : ((setPhraseBody id a b c s).1).unit = s.unit := by rw [setPhraseBody_frame]
@[simp] theorem setPhraseBody_notices (id : Nat) (a b c : List Byte) (s : State) : ((setPhraseBody id a b c s).1).notices = s.notices := by rw [setPhraseBody_frame]
@[simp] theorem setPhraseBody_tickTaken (id : Nat) (a b c : List Byte) (s : State) : ((setPhraseBody id a b c s).1).tickTaken = s.tickTaken := by rw [setPhraseBody_frame]
@[simp] theorem setPhraseBody_subTaken (id : Nat) (a b c : List Byte) (s : State) : ((setPhraseBody id a b c s).1).subTaken = s.subTaken := by rw [setPhraseBody_frame]
@[simp] theorem setPhraseBody_pending (id : Nat) (a b c : List Byte) (s : State) : ((setPhraseBody id a b c s).1).pending = s.pending := by rw [setPhraseBody_frame]

/-! ### dropPhraseBody -/

theorem dropPhraseBody_frame (id : Nat) (s : State) :
    (dropPhraseBody id s).1 = { s with phrases := ((dropPhraseBody id s).1).phrases } := by
  simp only [dropPhraseBody]
  (repeat' split) <;> rfl

@[simp] theorem dropPhraseBody_table (id : Nat) (s : State) : ((dropPhraseBody id s).1).table = s.table := by rw [dropPhraseBody_frame]
@[simp] theorem dropPhraseBody_batch (id : Nat) (s : State) : ((dropPhraseBody id s).1).batch = s.batch := by rw [dropPhraseBody_frame]
@[simp] theorem dropPhraseBody_sup (id : Nat) (s : State) : ((dropPhraseBody id s).1).sup = s.sup := by rw [dropPhraseBody_frame]
@[simp] theorem dropPhraseBody_clock (id : Nat) (s : State) : ((dropPhraseBody id s).1).clock = s.clock := by rw [dropPhraseBody_frame]
@[simp] theorem dropPhraseBody_board (id : Nat) (s : State) : ((dropPhraseBody id s).1).board = s.board := by rw [dropPhraseBody_frame]
@[simp] theorem dropPhraseBody_overlays (id : Nat) (s : State) : ((dropPhraseBody id s).1).overlays = s.overlays := by rw [dropPhraseBody_frame]
@[simp] theorem dropPhraseBody_fonts (id : Nat) (s : State) : ((dropPhraseBody id s).1).fonts = s.fonts := by rw [dropPhraseBody_frame]
@[simp] theorem dropPhraseBody_coder (id : Nat) (s : State) : ((dropPhraseBody id s).1).coder = s.coder := by rw [dropPhraseBody_frame]
@[simp] theorem dropPhraseBody_chain (id : Nat) (s : State) : ((dropPhraseBody id s).1).chain = s.chain := by rw [dropPhraseBody_frame]
@[simp] theorem dropPhraseBody_light (id : Nat) (s : State) : ((dropPhraseBody id s).1).light = s.light := by rw [dropPhraseBody_frame]
@[simp] theorem dropPhraseBody_line (id : Nat) (s : State) : ((dropPhraseBody id s).1).line = s.line := by rw [dropPhraseBody_frame]
@[simp] theorem dropPhraseBody_handler (id : Nat) (s : State) : ((dropPhraseBody id s).1).handler = s.handler := by rw [dropPhraseBody_frame]
@[simp] theorem dropPhraseBody_unit (id : Nat) (s : State) : ((dropPhraseBody id s).1).unit = s.unit := by rw [dropPhraseBody_frame]
@[simp] theorem dropPhraseBody_notices (id : Nat) (s : State) : ((dropPhraseBody id s).1).notices = s.notices := by rw [dropPhraseBody_frame]
@[simp] theorem dropPhraseBody_tickTaken (id : Nat) (s : State) : ((dropPhraseBody id s).1).tickTaken = s.tickTaken := by rw [dropPhraseBody_frame]
@[simp] theorem dropPhraseBody_subTaken (id : Nat) (s : State) : ((dropPhraseBody id s).1).subTaken = s.subTaken := by rw [dropPhraseBody_frame]
@[simp] theorem dropPhraseBody_pending (id : Nat) (s : State) : ((dropPhraseBody id s).1).pending = s.pending := by rw [dropPhraseBody_frame]

/-! ### setGlyphsBody -/

theorem setGlyphsBody_frame (font h sp first : Nat) (widths bitmaps : List Byte) (s : State) :
    (setGlyphsBody font h sp first widths bitmaps s).1 = { s with fonts := ((setGlyphsBody font h sp first widths bitmaps s).1).fonts } := by
  simp only [setGlyphsBody]
  (repeat' split) <;> rfl

@[simp] theorem setGlyphsBody_table (font h sp first : Nat) (widths bitmaps : List Byte) (s : State) : ((setGlyphsBody font h sp first widths bitmaps s).1).table = s.table := by rw [setGlyphsBody_frame]
@[simp] theorem setGlyphsBody_batch (font h sp first : Nat) (widths bitmaps : List Byte) (s : State) : ((setGlyphsBody font h sp first widths bitmaps s).1).batch = s.batch := by rw [setGlyphsBody_frame]
@[simp] theorem setGlyphsBody_sup (font h sp first : Nat) (widths bitmaps : List Byte) (s : State) : ((setGlyphsBody font h sp first widths bitmaps s).1).sup = s.sup := by rw [setGlyphsBody_frame]
@[simp] theorem setGlyphsBody_clock (font h sp first : Nat) (widths bitmaps : List Byte) (s : State) : ((setGlyphsBody font h sp first widths bitmaps s).1).clock = s.clock := by rw [setGlyphsBody_frame]
@[simp] theorem setGlyphsBody_board (font h sp first : Nat) (widths bitmaps : List Byte) (s : State) : ((setGlyphsBody font h sp first widths bitmaps s).1).board = s.board := by rw [setGlyphsBody_frame]
@[simp] theorem setGlyphsBody_overlays (font h sp first : Nat) (widths bitmaps : List Byte) (s : State) : ((setGlyphsBody font h sp first widths bitmaps s).1).overlays = s.overlays := by rw [setGlyphsBody_frame]
@[simp] theorem setGlyphsBody_phrases (font h sp first : Nat) (widths bitmaps : List Byte) (s : State) : ((setGlyphsBody font h sp first widths bitmaps s).1).phrases = s.phrases := by rw [setGlyphsBody_frame]
@[simp] theorem setGlyphsBody_coder (font h sp first : Nat) (widths bitmaps : List Byte) (s : State) : ((setGlyphsBody font h sp first widths bitmaps s).1).coder = s.coder := by rw [setGlyphsBody_frame]
@[simp] theorem setGlyphsBody_chain (font h sp first : Nat) (widths bitmaps : List Byte) (s : State) : ((setGlyphsBody font h sp first widths bitmaps s).1).chain = s.chain := by rw [setGlyphsBody_frame]
@[simp] theorem setGlyphsBody_light (font h sp first : Nat) (widths bitmaps : List Byte) (s : State) : ((setGlyphsBody font h sp first widths bitmaps s).1).light = s.light := by rw [setGlyphsBody_frame]
@[simp] theorem setGlyphsBody_line (font h sp first : Nat) (widths bitmaps : List Byte) (s : State) : ((setGlyphsBody font h sp first widths bitmaps s).1).line = s.line := by rw [setGlyphsBody_frame]
@[simp] theorem setGlyphsBody_handler (font h sp first : Nat) (widths bitmaps : List Byte) (s : State) : ((setGlyphsBody font h sp first widths bitmaps s).1).handler = s.handler := by rw [setGlyphsBody_frame]
@[simp] theorem setGlyphsBody_unit (font h sp first : Nat) (widths bitmaps : List Byte) (s : State) : ((setGlyphsBody font h sp first widths bitmaps s).1).unit = s.unit := by rw [setGlyphsBody_frame]
@[simp] theorem setGlyphsBody_notices (font h sp first : Nat) (widths bitmaps : List Byte) (s : State) : ((setGlyphsBody font h sp first widths bitmaps s).1).notices = s.notices := by rw [setGlyphsBody_frame]
@[simp] theorem setGlyphsBody_tickTaken (font h sp first : Nat) (widths bitmaps : List Byte) (s : State) : ((setGlyphsBody font h sp first widths bitmaps s).1).tickTaken = s.tickTaken := by rw [setGlyphsBody_frame]
@[simp] theorem setGlyphsBody_subTaken (font h sp first : Nat) (widths bitmaps : List Byte) (s : State) : ((setGlyphsBody font h sp first widths bitmaps s).1).subTaken = s.subTaken := by rw [setGlyphsBody_frame]
@[simp] theorem setGlyphsBody_pending (font h sp first : Nat) (widths bitmaps : List Byte) (s : State) : ((setGlyphsBody font h sp first widths bitmaps s).1).pending = s.pending := by rw [setGlyphsBody_frame]

/-! ### dropFontBody -/

theorem dropFontBody_frame (font : Nat) (s : State) :
    (dropFontBody font s).1 = { s with fonts := ((dropFontBody font s).1).fonts } := by
  simp only [dropFontBody]
  (repeat' split) <;> rfl

@[simp] theorem dropFontBody_table (font : Nat) (s : State) : ((dropFontBody font s).1).table = s.table := by rw [dropFontBody_frame]
@[simp] theorem dropFontBody_batch (font : Nat) (s : State) : ((dropFontBody font s).1).batch = s.batch := by rw [dropFontBody_frame]
@[simp] theorem dropFontBody_sup (font : Nat) (s : State) : ((dropFontBody font s).1).sup = s.sup := by rw [dropFontBody_frame]
@[simp] theorem dropFontBody_clock (font : Nat) (s : State) : ((dropFontBody font s).1).clock = s.clock := by rw [dropFontBody_frame]
@[simp] theorem dropFontBody_board (font : Nat) (s : State) : ((dropFontBody font s).1).board = s.board := by rw [dropFontBody_frame]
@[simp] theorem dropFontBody_overlays (font : Nat) (s : State) : ((dropFontBody font s).1).overlays = s.overlays := by rw [dropFontBody_frame]
@[simp] theorem dropFontBody_phrases (font : Nat) (s : State) : ((dropFontBody font s).1).phrases = s.phrases := by rw [dropFontBody_frame]
@[simp] theorem dropFontBody_coder (font : Nat) (s : State) : ((dropFontBody font s).1).coder = s.coder := by rw [dropFontBody_frame]
@[simp] theorem dropFontBody_chain (font : Nat) (s : State) : ((dropFontBody font s).1).chain = s.chain := by rw [dropFontBody_frame]
@[simp] theorem dropFontBody_light (font : Nat) (s : State) : ((dropFontBody font s).1).light = s.light := by rw [dropFontBody_frame]
@[simp] theorem dropFontBody_line (font : Nat) (s : State) : ((dropFontBody font s).1).line = s.line := by rw [dropFontBody_frame]
@[simp] theorem dropFontBody_handler (font : Nat) (s : State) : ((dropFontBody font s).1).handler = s.handler := by rw [dropFontBody_frame]
@[simp] theorem dropFontBody_unit (font : Nat) (s : State) : ((dropFontBody font s).1).unit = s.unit := by rw [dropFontBody_frame]
@[simp] theorem dropFontBody_notices (font : Nat) (s : State) : ((dropFontBody font s).1).notices = s.notices := by rw [dropFontBody_frame]
@[simp] theorem dropFontBody_tickTaken (font : Nat) (s : State) : ((dropFontBody font s).1).tickTaken = s.tickTaken := by rw [dropFontBody_frame]
@[simp] theorem dropFontBody_subTaken (font : Nat) (s : State) : ((dropFontBody font s).1).subTaken = s.subTaken := by rw [dropFontBody_frame]
@[simp] theorem dropFontBody_pending (font : Nat) (s : State) : ((dropFontBody font s).1).pending = s.pending := by rw [dropFontBody_frame]

/-! ### setPaletteBody -/

theorem setPaletteBody_frame (first : Byte) (es : List RGB) (s : State) :
    (setPaletteBody first es s).1 = { s with board := ((setPaletteBody first es s).1).board, coder := ((setPaletteBody first es s).1).coder, chain := ((setPaletteBody first es s).1).chain } := by
  unfold setPaletteBody
  (repeat' split) <;> (try rw [settle_frame]) <;> rfl

@[simp] theorem setPaletteBody_table (first : Byte) (es : List RGB) (s : State) : ((setPaletteBody first es s).1).table = s.table := by rw [setPaletteBody_frame]
@[simp] theorem setPaletteBody_batch (first : Byte) (es : List RGB) (s : State) : ((setPaletteBody first es s).1).batch = s.batch := by rw [setPaletteBody_frame]
@[simp] theorem setPaletteBody_sup (first : Byte) (es : List RGB) (s : State) : ((setPaletteBody first es s).1).sup = s.sup := by rw [setPaletteBody_frame]
@[simp] theorem setPaletteBody_clock (first : Byte) (es : List RGB) (s : State) : ((setPaletteBody first es s).1).clock = s.clock := by rw [setPaletteBody_frame]
@[simp] theorem setPaletteBody_overlays (first : Byte) (es : List RGB) (s : State) : ((setPaletteBody first es s).1).overlays = s.overlays := by rw [setPaletteBody_frame]
@[simp] theorem setPaletteBody_phrases (first : Byte) (es : List RGB) (s : State) : ((setPaletteBody first es s).1).phrases = s.phrases := by rw [setPaletteBody_frame]
@[simp] theorem setPaletteBody_fonts (first : Byte) (es : List RGB) (s : State) : ((setPaletteBody first es s).1).fonts = s.fonts := by rw [setPaletteBody_frame]
@[simp] theorem setPaletteBody_light (first : Byte) (es : List RGB) (s : State) : ((setPaletteBody first es s).1).light = s.light := by rw [setPaletteBody_frame]
@[simp] theorem setPaletteBody_line (first : Byte) (es : List RGB) (s : State) : ((setPaletteBody first es s).1).line = s.line := by rw [setPaletteBody_frame]
@[simp] theorem setPaletteBody_handler (first : Byte) (es : List RGB) (s : State) : ((setPaletteBody first es s).1).handler = s.handler := by rw [setPaletteBody_frame]
@[simp] theorem setPaletteBody_unit (first : Byte) (es : List RGB) (s : State) : ((setPaletteBody first es s).1).unit = s.unit := by rw [setPaletteBody_frame]
@[simp] theorem setPaletteBody_notices (first : Byte) (es : List RGB) (s : State) : ((setPaletteBody first es s).1).notices = s.notices := by rw [setPaletteBody_frame]
@[simp] theorem setPaletteBody_tickTaken (first : Byte) (es : List RGB) (s : State) : ((setPaletteBody first es s).1).tickTaken = s.tickTaken := by rw [setPaletteBody_frame]
@[simp] theorem setPaletteBody_subTaken (first : Byte) (es : List RGB) (s : State) : ((setPaletteBody first es s).1).subTaken = s.subTaken := by rw [setPaletteBody_frame]
@[simp] theorem setPaletteBody_pending (first : Byte) (es : List RGB) (s : State) : ((setPaletteBody first es s).1).pending = s.pending := by rw [setPaletteBody_frame]

/-! ### setChainRulesBody -/

theorem setChainRulesBody_frame (retry fault probe : Byte) (s : State) :
    (setChainRulesBody retry fault probe s).1 = { s with chain := ((setChainRulesBody retry fault probe s).1).chain } := rfl

@[simp] theorem setChainRulesBody_table (retry fault probe : Byte) (s : State) : ((setChainRulesBody retry fault probe s).1).table = s.table := by rw [setChainRulesBody_frame]
@[simp] theorem setChainRulesBody_batch (retry fault probe : Byte) (s : State) : ((setChainRulesBody retry fault probe s).1).batch = s.batch := by rw [setChainRulesBody_frame]
@[simp] theorem setChainRulesBody_sup (retry fault probe : Byte) (s : State) : ((setChainRulesBody retry fault probe s).1).sup = s.sup := by rw [setChainRulesBody_frame]
@[simp] theorem setChainRulesBody_clock (retry fault probe : Byte) (s : State) : ((setChainRulesBody retry fault probe s).1).clock = s.clock := by rw [setChainRulesBody_frame]
@[simp] theorem setChainRulesBody_board (retry fault probe : Byte) (s : State) : ((setChainRulesBody retry fault probe s).1).board = s.board := by rw [setChainRulesBody_frame]
@[simp] theorem setChainRulesBody_overlays (retry fault probe : Byte) (s : State) : ((setChainRulesBody retry fault probe s).1).overlays = s.overlays := by rw [setChainRulesBody_frame]
@[simp] theorem setChainRulesBody_phrases (retry fault probe : Byte) (s : State) : ((setChainRulesBody retry fault probe s).1).phrases = s.phrases := by rw [setChainRulesBody_frame]
@[simp] theorem setChainRulesBody_fonts (retry fault probe : Byte) (s : State) : ((setChainRulesBody retry fault probe s).1).fonts = s.fonts := by rw [setChainRulesBody_frame]
@[simp] theorem setChainRulesBody_coder (retry fault probe : Byte) (s : State) : ((setChainRulesBody retry fault probe s).1).coder = s.coder := by rw [setChainRulesBody_frame]
@[simp] theorem setChainRulesBody_light (retry fault probe : Byte) (s : State) : ((setChainRulesBody retry fault probe s).1).light = s.light := by rw [setChainRulesBody_frame]
@[simp] theorem setChainRulesBody_line (retry fault probe : Byte) (s : State) : ((setChainRulesBody retry fault probe s).1).line = s.line := by rw [setChainRulesBody_frame]
@[simp] theorem setChainRulesBody_handler (retry fault probe : Byte) (s : State) : ((setChainRulesBody retry fault probe s).1).handler = s.handler := by rw [setChainRulesBody_frame]
@[simp] theorem setChainRulesBody_unit (retry fault probe : Byte) (s : State) : ((setChainRulesBody retry fault probe s).1).unit = s.unit := by rw [setChainRulesBody_frame]
@[simp] theorem setChainRulesBody_notices (retry fault probe : Byte) (s : State) : ((setChainRulesBody retry fault probe s).1).notices = s.notices := by rw [setChainRulesBody_frame]
@[simp] theorem setChainRulesBody_tickTaken (retry fault probe : Byte) (s : State) : ((setChainRulesBody retry fault probe s).1).tickTaken = s.tickTaken := by rw [setChainRulesBody_frame]
@[simp] theorem setChainRulesBody_subTaken (retry fault probe : Byte) (s : State) : ((setChainRulesBody retry fault probe s).1).subTaken = s.subTaken := by rw [setChainRulesBody_frame]
@[simp] theorem setChainRulesBody_pending (retry fault probe : Byte) (s : State) : ((setChainRulesBody retry fault probe s).1).pending = s.pending := by rw [setChainRulesBody_frame]

/-! ### setBrightnessBody -/

theorem setBrightnessBody_frame (b : RawBrightness) (s : State) :
    (setBrightnessBody b s).1 = { s with board := ((setBrightnessBody b s).1).board, coder := ((setBrightnessBody b s).1).coder, chain := ((setBrightnessBody b s).1).chain, light := ((setBrightnessBody b s).1).light } := by
  simp only [setBrightnessBody]
  (repeat' split) <;> (try rw [handBrightness_frame]) <;> rfl

@[simp] theorem setBrightnessBody_table (b : RawBrightness) (s : State) : ((setBrightnessBody b s).1).table = s.table := by rw [setBrightnessBody_frame]
@[simp] theorem setBrightnessBody_batch (b : RawBrightness) (s : State) : ((setBrightnessBody b s).1).batch = s.batch := by rw [setBrightnessBody_frame]
@[simp] theorem setBrightnessBody_sup (b : RawBrightness) (s : State) : ((setBrightnessBody b s).1).sup = s.sup := by rw [setBrightnessBody_frame]
@[simp] theorem setBrightnessBody_clock (b : RawBrightness) (s : State) : ((setBrightnessBody b s).1).clock = s.clock := by rw [setBrightnessBody_frame]
@[simp] theorem setBrightnessBody_overlays (b : RawBrightness) (s : State) : ((setBrightnessBody b s).1).overlays = s.overlays := by rw [setBrightnessBody_frame]
@[simp] theorem setBrightnessBody_phrases (b : RawBrightness) (s : State) : ((setBrightnessBody b s).1).phrases = s.phrases := by rw [setBrightnessBody_frame]
@[simp] theorem setBrightnessBody_fonts (b : RawBrightness) (s : State) : ((setBrightnessBody b s).1).fonts = s.fonts := by rw [setBrightnessBody_frame]
@[simp] theorem setBrightnessBody_line (b : RawBrightness) (s : State) : ((setBrightnessBody b s).1).line = s.line := by rw [setBrightnessBody_frame]
@[simp] theorem setBrightnessBody_handler (b : RawBrightness) (s : State) : ((setBrightnessBody b s).1).handler = s.handler := by rw [setBrightnessBody_frame]
@[simp] theorem setBrightnessBody_unit (b : RawBrightness) (s : State) : ((setBrightnessBody b s).1).unit = s.unit := by rw [setBrightnessBody_frame]
@[simp] theorem setBrightnessBody_notices (b : RawBrightness) (s : State) : ((setBrightnessBody b s).1).notices = s.notices := by rw [setBrightnessBody_frame]
@[simp] theorem setBrightnessBody_tickTaken (b : RawBrightness) (s : State) : ((setBrightnessBody b s).1).tickTaken = s.tickTaken := by rw [setBrightnessBody_frame]
@[simp] theorem setBrightnessBody_subTaken (b : RawBrightness) (s : State) : ((setBrightnessBody b s).1).subTaken = s.subTaken := by rw [setBrightnessBody_frame]
@[simp] theorem setBrightnessBody_pending (b : RawBrightness) (s : State) : ((setBrightnessBody b s).1).pending = s.pending := by rw [setBrightnessBody_frame]

/-! ### setLightCurveBody -/

theorem setLightCurveBody_frame (c : RawCurve) (s : State) :
    (setLightCurveBody c s).1 = { s with light := ((setLightCurveBody c s).1).light } := by
  unfold setLightCurveBody
  (repeat' split) <;> rfl

@[simp] theorem setLightCurveBody_table (c : RawCurve) (s : State) : ((setLightCurveBody c s).1).table = s.table := by rw [setLightCurveBody_frame]
@[simp] theorem setLightCurveBody_batch (c : RawCurve) (s : State) : ((setLightCurveBody c s).1).batch = s.batch := by rw [setLightCurveBody_frame]
@[simp] theorem setLightCurveBody_sup (c : RawCurve) (s : State) : ((setLightCurveBody c s).1).sup = s.sup := by rw [setLightCurveBody_frame]
@[simp] theorem setLightCurveBody_clock (c : RawCurve) (s : State) : ((setLightCurveBody c s).1).clock = s.clock := by rw [setLightCurveBody_frame]
@[simp] theorem setLightCurveBody_board (c : RawCurve) (s : State) : ((setLightCurveBody c s).1).board = s.board := by rw [setLightCurveBody_frame]
@[simp] theorem setLightCurveBody_overlays (c : RawCurve) (s : State) : ((setLightCurveBody c s).1).overlays = s.overlays := by rw [setLightCurveBody_frame]
@[simp] theorem setLightCurveBody_phrases (c : RawCurve) (s : State) : ((setLightCurveBody c s).1).phrases = s.phrases := by rw [setLightCurveBody_frame]
@[simp] theorem setLightCurveBody_fonts (c : RawCurve) (s : State) : ((setLightCurveBody c s).1).fonts = s.fonts := by rw [setLightCurveBody_frame]
@[simp] theorem setLightCurveBody_coder (c : RawCurve) (s : State) : ((setLightCurveBody c s).1).coder = s.coder := by rw [setLightCurveBody_frame]
@[simp] theorem setLightCurveBody_chain (c : RawCurve) (s : State) : ((setLightCurveBody c s).1).chain = s.chain := by rw [setLightCurveBody_frame]
@[simp] theorem setLightCurveBody_line (c : RawCurve) (s : State) : ((setLightCurveBody c s).1).line = s.line := by rw [setLightCurveBody_frame]
@[simp] theorem setLightCurveBody_handler (c : RawCurve) (s : State) : ((setLightCurveBody c s).1).handler = s.handler := by rw [setLightCurveBody_frame]
@[simp] theorem setLightCurveBody_unit (c : RawCurve) (s : State) : ((setLightCurveBody c s).1).unit = s.unit := by rw [setLightCurveBody_frame]
@[simp] theorem setLightCurveBody_notices (c : RawCurve) (s : State) : ((setLightCurveBody c s).1).notices = s.notices := by rw [setLightCurveBody_frame]
@[simp] theorem setLightCurveBody_tickTaken (c : RawCurve) (s : State) : ((setLightCurveBody c s).1).tickTaken = s.tickTaken := by rw [setLightCurveBody_frame]
@[simp] theorem setLightCurveBody_subTaken (c : RawCurve) (s : State) : ((setLightCurveBody c s).1).subTaken = s.subTaken := by rw [setLightCurveBody_frame]
@[simp] theorem setLightCurveBody_pending (c : RawCurve) (s : State) : ((setLightCurveBody c s).1).pending = s.pending := by rw [setLightCurveBody_frame]

/-! ### setGroupsBody -/

theorem setGroupsBody_frame (a b : Byte) (s : State) :
    (setGroupsBody a b s).1 = { s with line := ((setGroupsBody a b s).1).line } := by
  unfold setGroupsBody
  (repeat' split) <;> rfl

@[simp] theorem setGroupsBody_table (a b : Byte) (s : State) : ((setGroupsBody a b s).1).table = s.table := by rw [setGroupsBody_frame]
@[simp] theorem setGroupsBody_batch (a b : Byte) (s : State) : ((setGroupsBody a b s).1).batch = s.batch := by rw [setGroupsBody_frame]
@[simp] theorem setGroupsBody_sup (a b : Byte) (s : State) : ((setGroupsBody a b s).1).sup = s.sup := by rw [setGroupsBody_frame]
@[simp] theorem setGroupsBody_clock (a b : Byte) (s : State) : ((setGroupsBody a b s).1).clock = s.clock := by rw [setGroupsBody_frame]
@[simp] theorem setGroupsBody_board (a b : Byte) (s : State) : ((setGroupsBody a b s).1).board = s.board := by rw [setGroupsBody_frame]
@[simp] theorem setGroupsBody_overlays (a b : Byte) (s : State) : ((setGroupsBody a b s).1).overlays = s.overlays := by rw [setGroupsBody_frame]
@[simp] theorem setGroupsBody_phrases (a b : Byte) (s : State) : ((setGroupsBody a b s).1).phrases = s.phrases := by rw [setGroupsBody_frame]
@[simp] theorem setGroupsBody_fonts (a b : Byte) (s : State) : ((setGroupsBody a b s).1).fonts = s.fonts := by rw [setGroupsBody_frame]
@[simp] theorem setGroupsBody_coder (a b : Byte) (s : State) : ((setGroupsBody a b s).1).coder = s.coder := by rw [setGroupsBody_frame]
@[simp] theorem setGroupsBody_chain (a b : Byte) (s : State) : ((setGroupsBody a b s).1).chain = s.chain := by rw [setGroupsBody_frame]
@[simp] theorem setGroupsBody_light (a b : Byte) (s : State) : ((setGroupsBody a b s).1).light = s.light := by rw [setGroupsBody_frame]
@[simp] theorem setGroupsBody_handler (a b : Byte) (s : State) : ((setGroupsBody a b s).1).handler = s.handler := by rw [setGroupsBody_frame]
@[simp] theorem setGroupsBody_unit (a b : Byte) (s : State) : ((setGroupsBody a b s).1).unit = s.unit := by rw [setGroupsBody_frame]
@[simp] theorem setGroupsBody_notices (a b : Byte) (s : State) : ((setGroupsBody a b s).1).notices = s.notices := by rw [setGroupsBody_frame]
@[simp] theorem setGroupsBody_tickTaken (a b : Byte) (s : State) : ((setGroupsBody a b s).1).tickTaken = s.tickTaken := by rw [setGroupsBody_frame]
@[simp] theorem setGroupsBody_subTaken (a b : Byte) (s : State) : ((setGroupsBody a b s).1).subTaken = s.subTaken := by rw [setGroupsBody_frame]
@[simp] theorem setGroupsBody_pending (a b : Byte) (s : State) : ((setGroupsBody a b s).1).pending = s.pending := by rw [setGroupsBody_frame]

/-! ### setReplyModeBody -/

theorem setReplyModeBody_frame (mode : Byte) (s : State) :
    (setReplyModeBody mode s).1 = { s with line := ((setReplyModeBody mode s).1).line, handler := ((setReplyModeBody mode s).1).handler } := by
  simp only [setReplyModeBody]
  (repeat' split) <;> (try rw [dropReplies_frame]) <;> rfl

@[simp] theorem setReplyModeBody_table (mode : Byte) (s : State) : ((setReplyModeBody mode s).1).table = s.table := by rw [setReplyModeBody_frame]
@[simp] theorem setReplyModeBody_batch (mode : Byte) (s : State) : ((setReplyModeBody mode s).1).batch = s.batch := by rw [setReplyModeBody_frame]
@[simp] theorem setReplyModeBody_sup (mode : Byte) (s : State) : ((setReplyModeBody mode s).1).sup = s.sup := by rw [setReplyModeBody_frame]
@[simp] theorem setReplyModeBody_clock (mode : Byte) (s : State) : ((setReplyModeBody mode s).1).clock = s.clock := by rw [setReplyModeBody_frame]
@[simp] theorem setReplyModeBody_board (mode : Byte) (s : State) : ((setReplyModeBody mode s).1).board = s.board := by rw [setReplyModeBody_frame]
@[simp] theorem setReplyModeBody_overlays (mode : Byte) (s : State) : ((setReplyModeBody mode s).1).overlays = s.overlays := by rw [setReplyModeBody_frame]
@[simp] theorem setReplyModeBody_phrases (mode : Byte) (s : State) : ((setReplyModeBody mode s).1).phrases = s.phrases := by rw [setReplyModeBody_frame]
@[simp] theorem setReplyModeBody_fonts (mode : Byte) (s : State) : ((setReplyModeBody mode s).1).fonts = s.fonts := by rw [setReplyModeBody_frame]
@[simp] theorem setReplyModeBody_coder (mode : Byte) (s : State) : ((setReplyModeBody mode s).1).coder = s.coder := by rw [setReplyModeBody_frame]
@[simp] theorem setReplyModeBody_chain (mode : Byte) (s : State) : ((setReplyModeBody mode s).1).chain = s.chain := by rw [setReplyModeBody_frame]
@[simp] theorem setReplyModeBody_light (mode : Byte) (s : State) : ((setReplyModeBody mode s).1).light = s.light := by rw [setReplyModeBody_frame]
@[simp] theorem setReplyModeBody_unit (mode : Byte) (s : State) : ((setReplyModeBody mode s).1).unit = s.unit := by rw [setReplyModeBody_frame]
@[simp] theorem setReplyModeBody_notices (mode : Byte) (s : State) : ((setReplyModeBody mode s).1).notices = s.notices := by rw [setReplyModeBody_frame]
@[simp] theorem setReplyModeBody_tickTaken (mode : Byte) (s : State) : ((setReplyModeBody mode s).1).tickTaken = s.tickTaken := by rw [setReplyModeBody_frame]
@[simp] theorem setReplyModeBody_subTaken (mode : Byte) (s : State) : ((setReplyModeBody mode s).1).subTaken = s.subTaken := by rw [setReplyModeBody_frame]
@[simp] theorem setReplyModeBody_pending (mode : Byte) (s : State) : ((setReplyModeBody mode s).1).pending = s.pending := by rw [setReplyModeBody_frame]

/-! ### resetAllBody -/

theorem resetAllBody_frame (s : State) :
    (resetAllBody s).1 = { s with handler := ((resetAllBody s).1).handler } := rfl

@[simp] theorem resetAllBody_table (s : State) : ((resetAllBody s).1).table = s.table := by rw [resetAllBody_frame]
@[simp] theorem resetAllBody_batch (s : State) : ((resetAllBody s).1).batch = s.batch := by rw [resetAllBody_frame]
@[simp] theorem resetAllBody_sup (s : State) : ((resetAllBody s).1).sup = s.sup := by rw [resetAllBody_frame]
@[simp] theorem resetAllBody_clock (s : State) : ((resetAllBody s).1).clock = s.clock := by rw [resetAllBody_frame]
@[simp] theorem resetAllBody_board (s : State) : ((resetAllBody s).1).board = s.board := by rw [resetAllBody_frame]
@[simp] theorem resetAllBody_overlays (s : State) : ((resetAllBody s).1).overlays = s.overlays := by rw [resetAllBody_frame]
@[simp] theorem resetAllBody_phrases (s : State) : ((resetAllBody s).1).phrases = s.phrases := by rw [resetAllBody_frame]
@[simp] theorem resetAllBody_fonts (s : State) : ((resetAllBody s).1).fonts = s.fonts := by rw [resetAllBody_frame]
@[simp] theorem resetAllBody_coder (s : State) : ((resetAllBody s).1).coder = s.coder := by rw [resetAllBody_frame]
@[simp] theorem resetAllBody_chain (s : State) : ((resetAllBody s).1).chain = s.chain := by rw [resetAllBody_frame]
@[simp] theorem resetAllBody_light (s : State) : ((resetAllBody s).1).light = s.light := by rw [resetAllBody_frame]
@[simp] theorem resetAllBody_line (s : State) : ((resetAllBody s).1).line = s.line := by rw [resetAllBody_frame]
@[simp] theorem resetAllBody_unit (s : State) : ((resetAllBody s).1).unit = s.unit := by rw [resetAllBody_frame]
@[simp] theorem resetAllBody_notices (s : State) : ((resetAllBody s).1).notices = s.notices := by rw [resetAllBody_frame]
@[simp] theorem resetAllBody_tickTaken (s : State) : ((resetAllBody s).1).tickTaken = s.tickTaken := by rw [resetAllBody_frame]
@[simp] theorem resetAllBody_subTaken (s : State) : ((resetAllBody s).1).subTaken = s.subTaken := by rw [resetAllBody_frame]
@[simp] theorem resetAllBody_pending (s : State) : ((resetAllBody s).1).pending = s.pending := by rw [resetAllBody_frame]

/-! ### resetTablesBody -/

theorem resetTablesBody_frame (s : State) :
    (resetTablesBody s).1 = { s with table := ((resetTablesBody s).1).table, batch := ((resetTablesBody s).1).batch, board := ((resetTablesBody s).1).board, overlays := ((resetTablesBody s).1).overlays, coder := ((resetTablesBody s).1).coder, chain := ((resetTablesBody s).1).chain, unit := ((resetTablesBody s).1).unit } := by
  unfold resetTablesBody
  rw [clearOverlays_frame]
  rfl

@[simp] theorem resetTablesBody_sup (s : State) : ((resetTablesBody s).1).sup = s.sup := by rw [resetTablesBody_frame]
@[simp] theorem resetTablesBody_clock (s : State) : ((resetTablesBody s).1).clock = s.clock := by rw [resetTablesBody_frame]
@[simp] theorem resetTablesBody_phrases (s : State) : ((resetTablesBody s).1).phrases = s.phrases := by rw [resetTablesBody_frame]
@[simp] theorem resetTablesBody_fonts (s : State) : ((resetTablesBody s).1).fonts = s.fonts := by rw [resetTablesBody_frame]
@[simp] theorem resetTablesBody_light (s : State) : ((resetTablesBody s).1).light = s.light := by rw [resetTablesBody_frame]
@[simp] theorem resetTablesBody_line (s : State) : ((resetTablesBody s).1).line = s.line := by rw [resetTablesBody_frame]
@[simp] theorem resetTablesBody_handler (s : State) : ((resetTablesBody s).1).handler = s.handler := by rw [resetTablesBody_frame]
@[simp] theorem resetTablesBody_notices (s : State) : ((resetTablesBody s).1).notices = s.notices := by rw [resetTablesBody_frame]
@[simp] theorem resetTablesBody_tickTaken (s : State) : ((resetTablesBody s).1).tickTaken = s.tickTaken := by rw [resetTablesBody_frame]
@[simp] theorem resetTablesBody_subTaken (s : State) : ((resetTablesBody s).1).subTaken = s.subTaken := by rw [resetTablesBody_frame]
@[simp] theorem resetTablesBody_pending (s : State) : ((resetTablesBody s).1).pending = s.pending := by rw [resetTablesBody_frame]

/-! ### enableNoticesBody -/

theorem enableNoticesBody_frame (m : BitVec 16) (s : State) :
    (enableNoticesBody m s).1 = { s with notices := ((enableNoticesBody m s).1).notices } := by
  simp only [enableNoticesBody]
  (repeat' split) <;> rfl

@[simp] theorem enableNoticesBody_table (m : BitVec 16) (s : State) : ((enableNoticesBody m s).1).table = s.table := by rw [enableNoticesBody_frame]
@[simp] theorem enableNoticesBody_batch (m : BitVec 16) (s : State) : ((enableNoticesBody m s).1).batch = s.batch := by rw [enableNoticesBody_frame]
@[simp] theorem enableNoticesBody_sup (m : BitVec 16) (s : State) : ((enableNoticesBody m s).1).sup = s.sup := by rw [enableNoticesBody_frame]
@[simp] theorem enableNoticesBody_clock (m : BitVec 16) (s : State) : ((enableNoticesBody m s).1).clock = s.clock := by rw [enableNoticesBody_frame]
@[simp] theorem enableNoticesBody_board (m : BitVec 16) (s : State) : ((enableNoticesBody m s).1).board = s.board := by rw [enableNoticesBody_frame]
@[simp] theorem enableNoticesBody_overlays (m : BitVec 16) (s : State) : ((enableNoticesBody m s).1).overlays = s.overlays := by rw [enableNoticesBody_frame]
@[simp] theorem enableNoticesBody_phrases (m : BitVec 16) (s : State) : ((enableNoticesBody m s).1).phrases = s.phrases := by rw [enableNoticesBody_frame]
@[simp] theorem enableNoticesBody_fonts (m : BitVec 16) (s : State) : ((enableNoticesBody m s).1).fonts = s.fonts := by rw [enableNoticesBody_frame]
@[simp] theorem enableNoticesBody_coder (m : BitVec 16) (s : State) : ((enableNoticesBody m s).1).coder = s.coder := by rw [enableNoticesBody_frame]
@[simp] theorem enableNoticesBody_chain (m : BitVec 16) (s : State) : ((enableNoticesBody m s).1).chain = s.chain := by rw [enableNoticesBody_frame]
@[simp] theorem enableNoticesBody_light (m : BitVec 16) (s : State) : ((enableNoticesBody m s).1).light = s.light := by rw [enableNoticesBody_frame]
@[simp] theorem enableNoticesBody_line (m : BitVec 16) (s : State) : ((enableNoticesBody m s).1).line = s.line := by rw [enableNoticesBody_frame]
@[simp] theorem enableNoticesBody_handler (m : BitVec 16) (s : State) : ((enableNoticesBody m s).1).handler = s.handler := by rw [enableNoticesBody_frame]
@[simp] theorem enableNoticesBody_unit (m : BitVec 16) (s : State) : ((enableNoticesBody m s).1).unit = s.unit := by rw [enableNoticesBody_frame]
@[simp] theorem enableNoticesBody_tickTaken (m : BitVec 16) (s : State) : ((enableNoticesBody m s).1).tickTaken = s.tickTaken := by rw [enableNoticesBody_frame]
@[simp] theorem enableNoticesBody_subTaken (m : BitVec 16) (s : State) : ((enableNoticesBody m s).1).subTaken = s.subTaken := by rw [enableNoticesBody_frame]
@[simp] theorem enableNoticesBody_pending (m : BitVec 16) (s : State) : ((enableNoticesBody m s).1).pending = s.pending := by rw [enableNoticesBody_frame]

/-! ### takeAhead -/

theorem takeAhead_frame (b : TickBlock) (h : State → Bool) (s : State) :
    takeAhead b h s = { s with table := (takeAhead b h s).table, batch := (takeAhead b h s).batch, sup := (takeAhead b h s).sup, clock := (takeAhead b h s).clock, board := (takeAhead b h s).board, overlays := (takeAhead b h s).overlays, coder := (takeAhead b h s).coder, chain := (takeAhead b h s).chain, unit := (takeAhead b h s).unit, notices := (takeAhead b h s).notices, tickTaken := (takeAhead b h s).tickTaken } := by
  simp only [takeAhead]
  (repeat' split) <;> (try rw [blockTick_frame]) <;> rfl

@[simp] theorem takeAhead_phrases (b : TickBlock) (h : State → Bool) (s : State) : (takeAhead b h s).phrases = s.phrases := by rw [takeAhead_frame]
@[simp] theorem takeAhead_fonts (b : TickBlock) (h : State → Bool) (s : State) : (takeAhead b h s).fonts = s.fonts := by rw [takeAhead_frame]
@[simp] theorem takeAhead_light (b : TickBlock) (h : State → Bool) (s : State) : (takeAhead b h s).light = s.light := by rw [takeAhead_frame]
@[simp] theorem takeAhead_line (b : TickBlock) (h : State → Bool) (s : State) : (takeAhead b h s).line = s.line := by rw [takeAhead_frame]
@[simp] theorem takeAhead_handler (b : TickBlock) (h : State → Bool) (s : State) : (takeAhead b h s).handler = s.handler := by rw [takeAhead_frame]
@[simp] theorem takeAhead_subTaken (b : TickBlock) (h : State → Bool) (s : State) : (takeAhead b h s).subTaken = s.subTaken := by rw [takeAhead_frame]
@[simp] theorem takeAhead_pending (b : TickBlock) (h : State → Bool) (s : State) : (takeAhead b h s).pending = s.pending := by rw [takeAhead_frame]

/-! ### internalTick -/

theorem internalTick_frame (order : List TickBlock) (s : State) :
    internalTick order s = { s with table := (internalTick order s).table, batch := (internalTick order s).batch, sup := (internalTick order s).sup, clock := (internalTick order s).clock, board := (internalTick order s).board, overlays := (internalTick order s).overlays, coder := (internalTick order s).coder, chain := (internalTick order s).chain, unit := (internalTick order s).unit, notices := (internalTick order s).notices, tickTaken := (internalTick order s).tickTaken } := by
  unfold internalTick
  generalize tickBlocks order s = bs
  have h : ∀ (bs : List TickBlock) (s : State),
      (bs.foldl (fun s b => blockTick b s) s).phrases = s.phrases ∧ (bs.foldl (fun s b => blockTick b s) s).fonts = s.fonts
        ∧ (bs.foldl (fun s b => blockTick b s) s).light = s.light ∧ (bs.foldl (fun s b => blockTick b s) s).line = s.line
        ∧ (bs.foldl (fun s b => blockTick b s) s).handler = s.handler ∧ (bs.foldl (fun s b => blockTick b s) s).subTaken = s.subTaken
        ∧ (bs.foldl (fun s b => blockTick b s) s).pending = s.pending := by
    intro bs
    induction bs with
    | nil => intro s; simp
    | cons b bs ih => intro s; simpa using ih (blockTick b s)
  obtain ⟨h1, h2, h3, h4, h5, h6, h7⟩ := h bs s
  simp [h1, h2, h3, h4, h5, h6, h7]

@[simp] theorem internalTick_phrases (order : List TickBlock) (s : State) : (internalTick order s).phrases = s.phrases := by rw [internalTick_frame]
@[simp] theorem internalTick_fonts (order : List TickBlock) (s : State) : (internalTick order s).fonts = s.fonts := by rw [internalTick_frame]
@[simp] theorem internalTick_light (order : List TickBlock) (s : State) : (internalTick order s).light = s.light := by rw [internalTick_frame]
@[simp] theorem internalTick_line (order : List TickBlock) (s : State) : (internalTick order s).line = s.line := by rw [internalTick_frame]
@[simp] theorem internalTick_handler (order : List TickBlock) (s : State) : (internalTick order s).handler = s.handler := by rw [internalTick_frame]
@[simp] theorem internalTick_subTaken (order : List TickBlock) (s : State) : (internalTick order s).subTaken = s.subTaken := by rw [internalTick_frame]
@[simp] theorem internalTick_pending (order : List TickBlock) (s : State) : (internalTick order s).pending = s.pending := by rw [internalTick_frame]

end Sys2Proof.Machine
end

