-- ==== Sys2Proof/Laws/Requests.lean ====
section
/-! SUPPORT. What the operations shared by every request can do: admission, application, the end of a request, the handing over of a reply and the offer of a notice. -/

namespace Sys2Proof.Machine

open Sys2Proof

/-! ### Admission -/

/-- An admitted application changes only the line's count of completions or the handler's current request. -/
theorem admission_frame {c : Instr} {s : State} {a : Admitted} (h : admission c s = some a) :
    a.state = { s with line := { s.line with seq := a.state.line.seq }, handler := { s.handler with current := none } }
      ∧ s.handler.reset = .none := by
  unfold admission at h
  split at h
  · next h1 h2 =>
    split at h
    · cases h
      refine ⟨?_, h1⟩
      cases hs : s.handler with
      | mk cur r => rw [hs] at h2; cases h2; rw [← hs]
    · cases h
  · next h1 _ =>
    split at h
    · cases h
      exact ⟨rfl, h1⟩
    · cases h
  · cases h

theorem admission_state_table {c : Instr} {s : State} {a : Admitted} (h : admission c s = some a) : a.state.table = s.table := by rw [(admission_frame h).1]
theorem admission_state_batch {c : Instr} {s : State} {a : Admitted} (h : admission c s = some a) : a.state.batch = s.batch := by rw [(admission_frame h).1]
theorem admission_state_sup {c : Instr} {s : State} {a : Admitted} (h : admission c s = some a) : a.state.sup = s.sup := by rw [(admission_frame h).1]
theorem admission_state_clock {c : Instr} {s : State} {a : Admitted} (h : admission c s = some a) : a.state.clock = s.clock := by rw [(admission_frame h).1]
theorem admission_state_board {c : Instr} {s : State} {a : Admitted} (h : admission c s = some a) : a.state.board = s.board := by rw [(admission_frame h).1]
theorem admission_state_overlays {c : Instr} {s : State} {a : Admitted} (h : admission c s = some a) : a.state.overlays = s.overlays := by rw [(admission_frame h).1]
theorem admission_state_phrases {c : Instr} {s : State} {a : Admitted} (h : admission c s = some a) : a.state.phrases = s.phrases := by rw [(admission_frame h).1]
theorem admission_state_fonts {c : Instr} {s : State} {a : Admitted} (h : admission c s = some a) : a.state.fonts = s.fonts := by rw [(admission_frame h).1]
theorem admission_state_coder {c : Instr} {s : State} {a : Admitted} (h : admission c s = some a) : a.state.coder = s.coder := by rw [(admission_frame h).1]
theorem admission_state_chain {c : Instr} {s : State} {a : Admitted} (h : admission c s = some a) : a.state.chain = s.chain := by rw [(admission_frame h).1]
theorem admission_state_light {c : Instr} {s : State} {a : Admitted} (h : admission c s = some a) : a.state.light = s.light := by rw [(admission_frame h).1]
theorem admission_state_unit {c : Instr} {s : State} {a : Admitted} (h : admission c s = some a) : a.state.unit = s.unit := by rw [(admission_frame h).1]
theorem admission_state_notices {c : Instr} {s : State} {a : Admitted} (h : admission c s = some a) : a.state.notices = s.notices := by rw [(admission_frame h).1]
theorem admission_state_pending {c : Instr} {s : State} {a : Admitted} (h : admission c s = some a) : a.state.pending = s.pending := by rw [(admission_frame h).1]

/-! ### Application -/

/-- A request either is not the one held, and changes nothing, or is applied by its owning rule and ended. -/
theorem request_cases {v : Via} {c : Instr} {body : State → State × Answer} {s t : State} (h : request v c body s = .next t) :
    t = s ∨ ∃ a, admission c s = some a ∧ t = finish v (requestKind c) a.seq a.lost (body a.state).2 (body a.state).1 := by
  unfold request at h
  split at h
  · cases h; exact .inl rfl
  · next a ha => cases h; exact .inr ⟨a, ha, rfl⟩

/-- A reading request either is not the one held, is answered, or is ignored. -/
theorem reading_cases {v : Via} {c : Instr} {report : State → Answer} {s t : State} (h : reading v c report s = .next t) :
    t = s ∨ ∃ a, admission c s = some a ∧ (t = finish v (requestKind c) a.seq a.lost (report a.state) a.state ∨ t = a.state) := by
  unfold reading at h
  split at h
  · cases h; exact .inl rfl
  · next a ha => split at h <;> cases h <;> exact .inr ⟨a, ha, by simp⟩

theorem request_answers (v : Via) (c : Instr) (body : State → State × Answer) (s : State) : ∃ t, request v c body s = .next t := by
  unfold request
  split <;> exact ⟨_, rfl⟩

theorem reading_answers (v : Via) (c : Instr) (report : State → Answer) (s : State) : ∃ t, reading v c report s = .next t := by
  unfold reading
  split
  · exact ⟨_, rfl⟩
  · split <;> exact ⟨_, rfl⟩

/-- The body's result, ended, is what an admitted request answers. -/
theorem request_of_admit {v : Via} {c : Instr} {body : State → State × Answer} {s : State} {a : Admitted} (h : admission c s = some a) :
    request v c body s = .next (finish v (requestKind c) a.seq a.lost (body a.state).2 (body a.state).1) := by
  simp [request, h]

/-- A unit-addressed reading request is answered from the state as it stands. -/
theorem reading_of_admit {v : Via} {c : Instr} {report : State → Answer} {s : State} {a : Admitted} (h : admission c s = some a)
    (hv : v.addressing = .unit) :
    reading v c report s = .next (finish v (requestKind c) a.seq a.lost (report a.state) a.state) := by
  simp [reading, h, hv]

/-! ### The replies waiting -/

/-- A reply takes its place: before it stand replies to frames no later than its own, and the first after it answers a later one. -/
theorem insertReply_split (r : Reply) (rs : List Reply) :
    ∃ before after, rs = before ++ after ∧ insertReply r rs = before ++ r :: after ∧ (∀ q ∈ before, q.seq ≤ r.seq)
      ∧ ∀ q, after.head? = some q → r.seq < q.seq := by
  induction rs with
  | nil => exact ⟨[], [], rfl, rfl, by simp, by simp⟩
  | cons q qs ih =>
    unfold insertReply
    split
    · next h => exact ⟨[], q :: qs, rfl, rfl, by simp, by simpa using h⟩
    · next h =>
      obtain ⟨b, a, h1, h2, h3, h4⟩ := ih
      refine ⟨q :: b, a, by rw [h1]; rfl, by rw [h2]; rfl, ?_, h4⟩
      intro x hx
      rcases List.mem_cons.mp hx with rfl | hx
      · omega
      · exact h3 x hx

@[simp] theorem insertReply_length (r : Reply) (rs : List Reply) : (insertReply r rs).length = rs.length + 1 := by
  obtain ⟨b, a, h1, h2, -, -⟩ := insertReply_split r rs
  rw [h2, h1]
  simp; omega

/-- Taking its place keeps the order of the frames answered. -/
theorem insertReply_ordered (r : Reply) (rs : List Reply) (h : rs.Pairwise fun a b => a.seq ≤ b.seq) :
    (insertReply r rs).Pairwise fun a b => a.seq ≤ b.seq := by
  obtain ⟨b, a, h1, h2, h3, h4⟩ := insertReply_split r rs
  subst h1
  rw [h2]
  obtain ⟨hb, ha, hba⟩ := List.pairwise_append.mp h
  refine List.pairwise_append.mpr ⟨hb, List.pairwise_cons.mpr ⟨?_, ha⟩, ?_⟩
  · intro q hq
    cases a with
    | nil => cases hq
    | cons x xs =>
      have hx := h4 x rfl
      rcases List.mem_cons.mp hq with rfl | hq
      · omega
      · have := (List.pairwise_cons.mp ha).1 q hq; omega
  · intro p hp q hq
    rcases List.mem_cons.mp hq with rfl | hq
    · exact h3 p hp
    · exact hba p hp q hq

/-- Seven replies or fewer all wait. -/
theorem setWaiting_room (r : Reply) (rest : List Reply) (s : State) (h : rest.length < maxWaiting) :
    setWaiting (r :: rest) s = { s with line := { s.line with waiting := r :: rest } } := if_pos h

/-- Of more than seven replies the first is withheld. -/
theorem setWaiting_full (r : Reply) (rest : List Reply) (s : State) (h : maxWaiting ≤ rest.length) :
    setWaiting (r :: rest) s = dropReply r.carried { s with line := { s.line with waiting := rest } } := if_neg (Nat.not_lt.mpr h)

/-- The replies waiting become those given, or those after the first of them. -/
theorem setWaiting_line (rs : List Reply) (s : State) :
    ∃ ws, (setWaiting rs s).line = { s.line with waiting := ws } ∧ ws.Sublist rs
      ∧ (rs.length ≤ maxWaiting + 1 → ws.length ≤ maxWaiting) ∧ (rs.length ≤ maxWaiting → ws = rs) := by
  unfold setWaiting
  split
  · exact ⟨[], rfl, List.Sublist.refl _, by simp, by simp⟩
  · next r rest =>
    split
    · next h => exact ⟨r :: rest, rfl, List.Sublist.refl _, by simp; omega, by simp⟩
    · next h => exact ⟨rest, by simp, List.sublist_cons_self _ _, by simp, by simp; omega⟩

/-- The line after a reply is handed over differs in the replies waiting alone, which stay in order and at most seven. -/
theorem handOver_line (lost : Bool) (r : Reply) (s : State) :
    ∃ ws, (handOver lost r s).line = { s.line with waiting := ws }
      ∧ (s.line.waiting.length ≤ maxWaiting → ws.length ≤ maxWaiting)
      ∧ (s.line.waiting.Pairwise (fun a b => a.seq ≤ b.seq) → ws.Pairwise fun a b => a.seq ≤ b.seq) := by
  unfold handOver
  split
  · exact ⟨s.line.waiting, by simp, id, id⟩
  · obtain ⟨ws, h1, h2, h3, -⟩ := setWaiting_line (insertReply r s.line.waiting) s
    exact ⟨ws, h1, fun h => h3 (by simpa using h), fun h => (insertReply_ordered r _ h).sublist h2⟩

/-! ### The end of a request -/

/-- A unit-addressed request hands its reply over. -/
theorem finish_unitAddressed (v : Via) (kind : Byte) (seq : Nat) (lost : Bool) (a : Answer) (s : State) (h : v.addressing = .unit) :
    finish v kind seq lost a s = handOver lost (buildReply s seq kind v.tag a) s := by
  simp [finish, h]

/-- A refused group or broadcast request offers REFUSAL. -/
theorem finish_groupRefused (v : Via) (kind : Byte) (seq : Nat) (lost : Bool) (code : ResultCode) (s : State) (h : v.addressing ≠ .unit) :
    finish v kind seq lost (.refused code) s = offer (.refusal code) kind.toNat s := by
  unfold finish
  split
  · contradiction
  · rfl

/-- A group or broadcast request that is done gets no reply. -/
theorem finish_groupDone (v : Via) (kind : Byte) (seq : Nat) (lost : Bool) (f : List Byte) (c : Carried) (s : State) (h : v.addressing ≠ .unit) :
    finish v kind seq lost (.done f c) s = dropReply c s := by
  unfold finish
  split
  · contradiction
  · rfl

/-- The notices after the end of a request: as they were, or with one offer of REFUSAL. -/
theorem finish_notices (v : Via) (kind : Byte) (seq : Nat) (lost : Bool) (a : Answer) (s : State) :
    (finish v kind seq lost a s).notices = s.notices
      ∨ ∃ code, (finish v kind seq lost a s).notices = offerTo s.notices (.refusal code) kind.toNat s.unit.uptime := by
  unfold finish
  split
  · left; simp
  · split
    · left; simp
    · exact .inr ⟨_, rfl⟩

end Sys2Proof.Machine
end

