-- ==== Sys2Proof/Tests/Slice0.lean ====
section
/-! SUPPORT. Small tests of the model: the refusals of WellFormed, the spec's worked numbers, one witness for each statement that has
hypotheses. A witness shows concrete states and operands that meet the hypotheses of each clause. -/

namespace Sys2Proof.Tests

open Sys2Proof Sys2Proof.Machine

/-! ### Small states -/

/-- A part with unit address 5, right after power-on. -/
def base : State := State.fresh ⟨0#2, false, 5#6⟩ .powerOn []

def viaU : Via := ⟨.unit, 7#8⟩

def viaG : Via := ⟨.broadcast, 9#8⟩

/-- The state after a command. -/
def after (c : Instr) (s : State) : State :=
  match exec c s with
  | .next t => t
  | _ => s

/-- The payload of the last reply that waits. -/
def answer (s : State) : List Byte := ((s.line.waiting.getLast?).map fun r => r.payload).getD []

def dep (trip e : Nat) : Departure :=
  { trip := trip, platform := 1, linePh := 1, destPh := 2, scheduled := e, predicted := none, status := .normal }

def live (trip e : Nat) : Live := { dep := dep trip e, form := .empty, shown := none, rise := 0 }

/-- A board of 128 by 32 with one panel of 64 by 16 placed and active. -/
def board : State :=
  { base with
    board := { base.board with
      mode := .blank, width := 128, height := 32, panelCount := 2,
      places := base.board.places.set 0 (some ⟨0, 0, 64, 16, 4, 128, 128, 128⟩),
      canvas := List.replicate 32 (List.replicate 128 0#4) },
    chain := { base.chain with recs := base.chain.recs.set 0 { PanelRecord.init with state := .active } } }

theorem places_of_board (p : Pos) (g : Placement) (h : board.board.places.get p = some g) : p = 0 ∧ g = ⟨0, 0, 64, 16, 4, 128, 128, 128⟩ := by
  revert h
  fin_cases p <;> simp [board, base, State.fresh, Board.init, Per8.set, Per8.tabulate, Per8.get, Per8.all, eq_comm]

def inMode (m : BoardMode) (s : State) : State := { s with board := { s.board with mode := m } }

def withClock (st : ClockState) (value : Nat) (s : State) : State :=
  { s with clock := { s.clock with state := st, value := value, day := 3 } }

def departureLine (skipRank : Nat) : LineDef :=
  { y := 0, height := 8, x := 0, width := 64, font := 0, fg := 1#4, bg := 0#4,
    kind := .departure 1#16 skipRank false ⟨0, 0⟩ ⟨0, 40⟩ ⟨40, 24⟩ }

def page (skip : Bool) (rank : Nat) : Page := { dwell := 5, language := 0, skip := skip, lines := [departureLine rank] }

/-! ### Well-formed commands -/

theorem test_wf_refuses_block_named_twice : (Instr.internalTick [.clock, .clock]).wf = false := by decide

theorem test_wf_refuses_ten_lines :
    (Instr.setPage viaU 0#8 5#8 0#8 0#8 (List.replicate 10 ⟨0#8, 1#8, 0#16, 1#16, 0#8, 0#8, 0#8, .band 1#16⟩)).wf = false := by decide

theorem test_wf_refuses_other_kind_3 :
    (Instr.setPage viaU 0#8 5#8 0#8 0#8 [⟨0#8, 1#8, 0#16, 1#16, 0#8, 0#8, 0#8, .other 3#8⟩]).wf = false := by decide

theorem test_wf_refuses_long_phrase : (Instr.setPhrase viaU 1#16 (List.replicate 236 65#8) [] []).wf = false := by
  simp only [Instr.wf, maxPayload, List.length_replicate, List.length_nil]; decide

theorem test_wf_refuses_long_bitmaps : (Instr.setGlyphs viaU 1#8 8#8 1#8 65#8 [8#8] (List.replicate 235 0#8)).wf = false := by
  simp only [Instr.wf, maxPayload, List.length_replicate, List.length_cons, List.length_nil]; decide

theorem test_wf_refuses_long_palette : (Instr.setPalette viaU 0#8 (List.replicate 80 ⟨0#8, 0#8, 0#8⟩)).wf = false := by decide

theorem test_wf_accepts_longest_phrase : (Instr.setPhrase viaU 1#16 (List.replicate 235 65#8) [] []).wf = true := by
  simp only [Instr.wf, maxPayload, List.length_replicate, List.length_nil]; decide

/-! ### The spec's worked numbers -/

/-- spec/13 section 13.2. -/
theorem test_crc_of_one_zero : crc16 [0x00#8] = 0xE1F0#16 := by decide

/-- spec/13 section 13.5, the row of spec/08 section 8.5.1. -/
theorem test_row_coded_run :
    codeRow (List.replicate 10 0#4 ++ List.replicate 20 3#4 ++ List.replicate 34 0#4) =
      [0x00#8, 0x06#8, 0x09#8, 0x3F#8, 0x33#8, 0x0F#8, 0x0F#8, 0x01#8] := by decide

/-- Table 8-5, fourth and fifth rows. -/
theorem test_row_form_boundary :
    (codeRow ((List.range 30).map (fun i => if i % 2 = 0 then 0#4 else 15#4) ++ List.replicate 34 0#4)).length = 33
    ∧ (codeRow ((List.range 30).map (fun i => if i % 2 = 0 then 0#4 else 15#4) ++ List.replicate 34 0#4)).head? = some 0x01#8
    ∧ (codeRow ((List.range 28).map (fun i => if i % 2 = 0 then 0#4 else 15#4) ++ List.replicate 36 0#4)).length = 33
    ∧ (codeRow ((List.range 28).map (fun i => if i % 2 = 0 then 0#4 else 15#4) ++ List.replicate 36 0#4)).head? = some 0x00#8 := by decide

/-- Table 8-6. -/
theorem test_drive_levels :
    driveLevel 255 98 140 = 107 ∧ driveLevel 200 98 128 = 77 ∧ driveLevel 255 255 255 = 255 ∧ driveLevel 255 64 1 = 1
    ∧ driveLevel 255 128 128 = 128 := by decide

/-- Table 10-2. -/
theorem test_curve_targets :
    target 2500 base.light.curve = 120 ∧ target 50 base.light.curve = 20 ∧ target 40000 base.light.curve = 255
    ∧ target 1800 [⟨0, 1⟩, ⟨1, 1⟩, ⟨500, 40⟩, ⟨2000, 120⟩, ⟨3000, 130⟩, ⟨4000, 140⟩] = 109
    ∧ target 250 [⟨0, 1⟩, ⟨1, 1⟩, ⟨100, 200⟩, ⟨400, 100⟩, ⟨3000, 130⟩, ⟨4000, 140⟩] = 150
    ∧ target 101 [⟨0, 1⟩, ⟨1, 1⟩, ⟨100, 200⟩, ⟨400, 100⟩, ⟨3000, 130⟩, ⟨4000, 140⟩] = 200 := by decide

/-- R84: 33,000 s is drawn 09:10 and 90,000 s 01:00. -/
theorem test_times_drawn :
    hhmmCodes 33000 = [48, 57, 58, 49, 48] ∧ hhmmCodes 90000 = [48, 49, 58, 48, 48] := by decide

/-- spec/07 section 7.7.3: nine codes of font 0 are 53 columns wide, and six of them fit 40. -/
theorem test_text_cut_to_width :
    textWidth none [67, 97, 110, 99, 101, 108, 108, 101, 100] = 53
    ∧ truncate none 40 [67, 97, 110, 99, 101, 108, 108, 101, 100] = [67, 97, 110, 99, 101, 108] ∧ glyphTop 48 16 7 = 52 := by decide

/-- Table 5-7: the record of effective time 32,000 under the default settings, with predictions allowed. -/
def evaluated (n : Nat) : Live :=
  evalRecord { tick := true, n := n, allowed := true, blank := false, settings := Countdown.init } (live 1 32000)

theorem test_minute_boundaries :
    (evaluated (32000 - 1830)).form = .clock ∧ (evaluated (32000 - 1829)).shown = some 30 ∧ (evaluated (32000 - 149)).shown = some 2
    ∧ (evaluated (32000 - 89)).shown = some 1 ∧ (evaluated (32000 - 31)).shown = some 1 ∧ (evaluated (32000 - 30)).form = .due := by decide

/-- Table 3-6: the first three marks. -/
theorem test_marks_lock_the_clock :
    answer (after (.timeMark viaU 412#16 30000#24 0#8) base) = [0#8, 1#8, 0#8, 0#8, 0#8]
    ∧ answer (after (.timeMark viaU 412#16 30005#24 4#8)
        { base with clock := { base.clock with state := .acquiring, day := 412, value := 480080 } }) = [0#8, 1#8, 2#8, 0#8, 4#8]
    ∧ (after (.timeMark viaU 412#16 30015#24 4#8)
        { base with clock := { base.clock with state := .acquiring, day := 412, value := 480244, agree := 1 } }).clock.state = .locked := by
  decide

/-- spec/03 section 3.8: D of −44 steps a LOCKED clock, and CLOCK/STEPPED carries 2. -/
theorem test_mark_steps_the_clock :
    (after (.timeMark viaG 412#16 30075#24 0#8)
        { base with clock := { base.clock with state := .locked, day := 412, value := 481244 } }).clock.value = 481200
    ∧ ((after (.timeMark viaG 412#16 30075#24 0#8)
        { base with clock := { base.clock with state := .locked, day := 412, value := 481244 } }).notices.queue.map fun n => n.arg) = [2] := by
  decide

/-- Table 3-6: a slew point with a pending slew of +4 advances the clock by 2, and one with −4 withholds the advance. -/
theorem test_slew_points :
    (after (.subTick true) { base with clock := { base.clock with state := .locked, value := 480080, slew := 4 } }).clock.value = 480082
    ∧ (after (.subTick true) { base with clock := { base.clock with state := .locked, value := 480080, slew := -4 } }).clock.value = 480080
    ∧ (after (.subTick true) { base with clock := { base.clock with state := .locked, value := 480080, slew := -4 } }).clock.slew = -3 := by
  decide

/-- Table 10-3 at window w, and Table 10-4 at window 1. -/
theorem test_light_windows :
    (after .lightWindowEnd { base with light := { base.light with
        gate := 1800, goal := 90, applied := 90, target := 90,
        curve := [⟨0, 1⟩, ⟨1, 1⟩, ⟨500, 40⟩, ⟨2000, 120⟩, ⟨3000, 130⟩, ⟨4000, 140⟩] } }).light.applied = 98
    ∧ (after .lightWindowEnd base).light.applied = 120 ∧ (after .lightWindowEnd base).light.zeroRun = 1 := by decide

/-- Table 12-5: a full queue drops the offer, sets the overflow flag and leaves TABLE enabled. -/
theorem test_full_queue_overflows :
    (offerTo { base.notices with queue := List.replicate 8 ⟨0, .line, 0, 0, 0⟩ } .tableTrimmed 8810 1).overflow = true
    ∧ (offerTo { base.notices with queue := List.replicate 8 ⟨0, .line, 0, 0, 0⟩ } .tableTrimmed 8810 1).enables.table = true := by decide

/-- Table 1-3: trip 4101 of predicted time 30,095 stands after trip 4099 of the same effective time. -/
theorem test_equal_times_ordered_by_trip :
    comesBefore (dep 4099 30095) { dep 4101 30060 with predicted := some 30095 } = true
    ∧ comesBefore { dep 4101 30060 with predicted := some 30095 } (dep 4099 30095) = false := by decide

/-- R11: E of N − RETIRE_AFTER is kept, and one second less is retired. -/
theorem test_retirement_is_strict :
    ((after (.internalTick []) { withClock .acquiring (221 * 16) base with
        table := { base.table with records := [live 9 100, live 2 101] } }).table.records.map fun r => r.dep.trip) = [2] := by decide

/-- R24: both windows end at one tick, and the gap window is named. -/
theorem test_both_windows_end :
    ((after .batchWindow { base with batch := { base.batch with stage := some ⟨6, .merge [], 1, 1⟩ } }).notices.queue.map fun n => n.arg)
      = [6] := by decide

/-- R123 and Table 8-4's rule: a height of 16 at scan ratio 4 takes the rows of a group four apart. -/
theorem test_scan_order : (List.range 8).map (scanRow 16 4) = [0, 4, 8, 12, 1, 5, 9, 13] := by decide

/-! ### Witnesses: the queue, the handler, resets -/

def heldSlot : Slot := { dest := 5#8, kind := 0x32#8, tag := 7#8, payload := [2#8], addressing := .unit, stamp := 0, seq := 0 }

/-- The handler holds SET_MODE BLANK. -/
def holding (s : State) : State := { s with handler := { current := some { slot := heldSlot, lost := false }, reset := .none } }

def resetting (w : ResetWait) (s : State) : State := { s with handler := { current := none, reset := w } }

def suppressed (s : State) : State := { s with line := { s.line with mode := .suppressed } }

def waitingReply (seq : Nat) : Reply := { seq := seq, dest := 5#8, kind := 2#8, tag := 1#8, payload := [0#8], carried := .nothing }

theorem witness_StepRunsFrontCommand :
    ({ base with pending := [.luxInPulse] } : State).pending = .luxInPulse :: [] ∧ base.pending = [] := by decide

theorem witness_RequestAdmission :
    (base.handler.reset = .none ∧ base.handler.current = none)
    ∧ ((holding base).handler.reset = .none ∧ (holding base).handler.current = some ⟨heldSlot, false⟩
      ∧ decodeRequest (slotVia heldSlot) heldSlot.kind heldSlot.payload = .request (.setMode viaU 2#8))
    ∧ ((State.reset.handler.reset = .none ∧ State.reset.handler.current = none) ∧ unitAddress State.reset.line.straps = none
      ∧ requestVia (.identify viaU) = some viaU ∧ viaU.addressing = .unit)
    ∧ ((requestVia (.identify { viaG with addressing := .group }) = some { viaG with addressing := .group })
      ∧ base.line.groupA = none ∧ base.line.groupB = none)
    ∧ (resetting .due base).handler.reset ≠ .none
    ∧ (requestVia (.setMode viaU 3#8) = some viaU ∧ (admission (.setMode viaU 3#8) (holding base)).isNone = true)
    ∧ (requestVia (.identify viaG) = some viaG ∧ isReadingKind (requestKind (.identify viaG)) = true ∧ viaG.addressing ≠ .unit
      ∧ (admission (.identify viaG) base).isSome = true) := by decide

theorem witness_RequestEnd :
    (viaU.addressing = .unit ∧ base.line.mode = .normal) ∧ (viaU.addressing = .unit ∧ (suppressed base).line.mode = .suppressed)
    ∧ viaG.addressing ≠ .unit ∧ done [1#8] = .done [1#8] .nothing
    ∧ base.line.waiting.length < 7 ∧ 7 ≤ (List.replicate 7 (waitingReply 0)).length := by decide

/-- R164 and Table 11-2: an eighth reply withholds the first, and seven wait. -/
theorem test_seven_replies_wait :
    ((after (.identify viaU) { base with line := { base.line with
        seq := 9, waiting := (List.range 7).map waitingReply } }).line.waiting.map fun r => r.seq) = [1, 2, 3, 4, 5, 6, 9] := by decide

theorem witness_UnitResets :
    (admission (.resetUnitTables viaG) base).isSome = true ∧ ((admission (.resetUnitAll viaU) base).isSome = true ∧ viaU.addressing = .unit)
    ∧ ((admission (.resetUnitAll viaG) base).isSome = true ∧ viaG.addressing ≠ .unit)
    ∧ (resetting .due base).handler.reset = .due ∧ base.handler.reset ≠ .due
    ∧ after (.powerOn ⟨0#2, false, 5#6⟩) base = base := by decide

def replying (carried : Carried) (s : State) : State :=
  { s with line := { s.line with sending := some { waitingReply 0 with carried := carried } } }

/-- R164: a RESET_UNIT ALL does not cut a reply that is being sent. -/
theorem test_unit_reset_during_a_reply :
    (after (.unitReset ⟨0#2, false, 5#6⟩) (replying .reset (resetting .due base))).line = (replying .nothing base).line := by decide

theorem witness_PowerOn_answers : (∃ t, exec (.powerOn ⟨3#2, true, 62#6⟩) base = .next t) ∧ ∃ t, exec (.resetPin ⟨3#2, true, 62#6⟩) base = .next t :=
  ⟨⟨_, rfl⟩, ⟨_, rfl⟩⟩

/-! ### Witnesses: the ticks -/

def armed (remaining : Nat) (s : State) : State := { s with sup := { s.sup with state := .armed, remaining := remaining } }

def openBatch (b : Batch) (s : State) : State := { s with batch := { s.batch with stage := some b } }

def overlay (id remaining : Nat) : Overlay :=
  { id := id, scope := .full, phrase := 9, present := .still, speed := 8, remaining := remaining }

/-- A board in RUN with page 1 defined and its line records as given. -/
def running (dwell : Nat) (lines : Option (List LineRecord)) : State :=
  inMode .run { board with board := { board.board with
    pages := ⟨none, some (page false 1), none, none⟩, current := some 1, dwell := dwell, lines := lines } }

def blankRecord : LineRecord := { content := .departure none .empty .none, covered := false, drawn := none }

theorem witness_InternalTickReachesEachBlockOnce : [TickBlock.table, .clock].Nodup ∧ ([] : List TickBlock).Nodup := by decide

theorem witness_RetirementAtTick :
    base.clock.state = .unset ∧ (withClock .acquiring 3536 base).clock.state ≠ .unset
    ∧ TableOk { base.table with records := [live 9 100, live 2 101] } := by unfold TableOk; decide

theorem witness_SupervisorAtTick :
    base.sup.state ≠ .armed
    ∧ (inMode .hold { armed 1 base with sup := { (armed 1 base).sup with hold := .pause } }).sup.hold = .pause
    ∧ ((armed 2 base).sup.state = .armed ∧ (armed 2 base).board.mode ≠ .hold ∧ 2 ≤ (armed 2 base).sup.remaining)
    ∧ ((inMode .hold (armed 1 base)).sup.state = .armed ∧ (inMode .hold (armed 1 base)).sup.hold = .run
      ∧ (armed 1 base).sup.remaining = 1 ∧ TickBlock.supervisor ∉ (armed 1 base).tickTaken) := by decide

theorem witness_BatchWindowsAtTick :
    base.batch.stage = none ∧ (openBatch ⟨6, .merge [], 2, 2⟩ base).batch.stage = some ⟨6, .merge [], 2, 2⟩
    ∧ (openBatch ⟨6, .merge [], 5, 1⟩ base).batch.stage = some ⟨6, .merge [], 5, 1⟩ ∧ TickBlock.batch ∉ base.tickTaken := by decide

theorem witness_ClockAgesAtTick :
    base.clock.state = .unset
    ∧ (({ base with clock := { base.clock with state := .locked, age := 119 } } : State).clock.coastAfter ≤ min 65535 (119 + 1))
    ∧ (({ base with clock := { base.clock with state := .coasting, age := 1919 } } : State).clock.coastAfter + base.clock.lapseAfter
        ≤ min 65535 (1919 + 1))
    ∧ (withClock .acquiring 0 base).clock.state = .acquiring ∧ min 65535 (118 + 1) < base.clock.coastAfter
    ∧ TickBlock.clock ∉ base.tickTaken := by decide

theorem witness_PermissionRecomputed :
    permission base = base.board.allowed ∧ permission (withClock .locked 0 board) ≠ (withClock .locked 0 board).board.allowed := by decide

theorem witness_SubTickAdvances :
    (base.subTaken = false ∧ base.clock.value ≤ 1727999 ∧ base.clock.state = .unset)
    ∧ ((withClock .locked 1727997 base).clock.state ≠ .unset ∧ (withClock .locked 1727997 base).clock.value + 1 < 1727999)
    ∧ ((withClock .locked 1727998 base).clock.value < 1727999 ∧ 1727999 ≤ (withClock .locked 1727998 base).clock.value + 1)
    ∧ ((withClock .locked 1727999 base).clock.value = 1727999 ∧ 1727999 < 1727999 + 1)
    ∧ ((withClock .acquiring 1727999 base).clock.value = 1727999 ∧ (withClock .lapsed 0 base).clock.state = .lapsed)
    ∧ (({ base with clock := { base.clock with value := 1727999, held := true } } : State).clock.held
        && decide (({ base with clock := { base.clock with value := 1727999, held := true } } : State).clock.value = 1727999)) = true
    ∧ base.board.mode ≠ .run
    ∧ ({ base with subTaken := true } : State).subTaken = true := by decide

/-- An empty display in RUN whose top is a SCROLL overlay of 30 codes, 179 columns wide in font 0. -/
def scrolling : State :=
  inMode .run { board with
    overlays := ⟨[{ overlay 1 0 with present := .scroll }], 5⟩, phrases := [{ id := 9, v0 := List.replicate 30 65#8, v1 := [], v2 := [] }] }

theorem witness_scrolling_sub_tick : scrolling.board.mode = .run ∧ Scrolls scrolling ∧ ¬ Scrolls base := by
  refine ⟨rfl, ⟨{ overlay 1 0 with present := .scroll }, [], rfl, rfl,
    Or.inl ⟨rfl, none, 15#4, 0#4, 0, Or.inl ⟨?_, rfl, rfl, rfl, rfl⟩, by decide⟩⟩, ?_⟩
  · intro p hp
    simp [scrolling, inMode, board, base, State.fresh, Board.init, currentPage] at hp
  · rintro ⟨o, rest, h, -⟩
    simp [base, State.fresh, Overlays.init] at h

/-- R39 and R40: an advance onto the hold keeps the slew R39 leaves; a slew point at the hold zeroes it. -/
theorem test_slew_at_the_hold :
    (after (.subTick false) { base with clock := { base.clock with state := .locked, value := 1727998, slew := 3 } }).clock.slew = 3
    ∧ (after (.subTick true) { base with clock := { base.clock with state := .acquiring, value := 1727999, slew := -3 } }).clock.slew = 0 := by
  decide

/-- R45: a negative slew set at the hold stands until the next slew point, which sets it to 0. -/
theorem test_slew_of_a_held_clock :
    (after (.subTick false) { base with clock := { base.clock with state := .acquiring, value := 1727999, slew := -3, held := true } }).clock.slew
      = -3
    ∧ (after (.subTick true) { base with clock := { base.clock with state := .acquiring, value := 1727999, slew := -3, held := true } }).clock.slew
      = 0 := by decide

theorem witness_OverlayLifetimesAtTick :
    ((inMode .run { base with overlays := ⟨[overlay 1 1, overlay 2 0], 5⟩ }).overlays.records.head?.map fun o => o.remaining) = some 1
    ∧ (({ base with overlays := ⟨[overlay 1 2, overlay 2 1], 5⟩ } : State).overlays.records.head?.map fun o => o.remaining) ≠ some 1
    ∧ (∃ o ∈ ({ base with overlays := ⟨[overlay 1 2, overlay 2 1], 5⟩ } : State).overlays.records, o.remaining = 1)
    ∧ TickBlock.overlays ∉ base.tickTaken := by decide

theorem witness_CountdownEvaluation :
    (evaluated 31911).form = .minutes ∧ max 1 ((effective (live 1 32000).dep - 31911 + 30) / 60) = 1
    ∧ (live 1 32000).shown = none ∧ ({ live 1 32000 with shown := some 1 } : Live).shown = some 1
    ∧ (evaluated 32000).form ≠ .minutes ∧ Countdown.init.rise ≤ 1 + 1 ∧ 0 + 1 < Countdown.init.rise := by decide

theorem witness_ComposerAtTick :
    base.board.mode = .unconfigured ∧ (board.board.mode ≠ .unconfigured ∧ board.board.mode ≠ .run)
    ∧ ((inMode .run board).board.mode = .run ∧ (inMode .run board).board.current = none)
    ∧ ((running 5 none).board.current = some 1 ∧ pageAt (running 5 none).board.pages 1 = some (page false 1)
      ∧ (running 5 none).board.lines = none)
    ∧ ((running 2 (some [blankRecord])).board.lines ≠ none ∧ 2 ≤ (running 2 (some [blankRecord])).board.dwell)
    ∧ ((running 1 (some [blankRecord])).board.lines ≠ none ∧ (running 1 (some [blankRecord])).board.dwell ≤ 1
      ∧ TickBlock.composer ∉ (running 1 none).tickTaken) := by decide

def inCoding (s : State) : State := { s with coder := { s.coder with state := .coding } }

def coveredRecord : LineRecord := { content := .departure none .empty .none, covered := true, drawn := some 9 }

/-- R100: the covered mark stands while a render is pending, also where the end of the dwell or SET_MODE RUN chooses the same page again.
Table 5-3: with no record selected the building leaves no drawn phrase. -/
theorem test_marks_stand_on_a_page_chosen_again :
    (after .dwellExpiry (inCoding (running 1 (some [coveredRecord])))).board.lines = some [{ coveredRecord with drawn := none }]
    ∧ (after (.setMode viaU 3#8) (running 5 (some [coveredRecord]))).board.kept = [coveredRecord] := by decide

/-- A page of one BAND line of width 8 current in RUN and in CODING, with a BAND overlay that scrolls there. -/
def bandScrolling (lines : Option (List LineRecord)) (kept : List LineRecord) (rendered : Bool) : State :=
  inCoding { running 5 lines with
    board := { (running 5 lines).board with
      pages := ⟨none, some { page false 1 with lines := [{ departureLine 1 with width := 8, kind := .band 9 }] }, none, none⟩,
      kept := kept, rendered := rendered },
    overlays := ⟨[{ overlay 1 0 with scope := .band, present := .scroll }], 5⟩,
    phrases := [{ id := 9, v0 := [65#8, 65#8], v1 := [], v2 := [] }] }

def bandRecord : LineRecord := { coveredRecord with content := .band 9 }

/-- R96 and R97: a BAND overlay requests no render before its page's first one, also where a SET_PAGE of another index has cleared
that, and one at each sub-tick after. -/
theorem test_band_overlay_before_the_first_render :
    (after (.subTick false) (after (.setPage viaU 3#8 5#8 0#8 0#8 []) (bandScrolling (some [bandRecord]) [] false))).board.pending = false
    ∧ (after (.subTick false) (bandScrolling none [bandRecord] true)).board.pending = true
    ∧ (after (.subTick false) (bandScrolling (some [bandRecord]) [] true)).board.pending = true := by decide

/-- R70: a building leaves the drawn phrase of a covered BAND line to the render. -/
theorem test_band_phrase_stands_until_the_render :
    (blockTick .composer (bandScrolling (some [{ bandRecord with drawn := some 7 }]) [] true)).board.lines
      = some [{ bandRecord with drawn := some 7 }] := by decide

theorem witness_PageChoice :
    choice base 2 = none ∧ pageAt (running 5 none).board.pages (2 + 3) = some (page false 1)
    ∧ passedOver (running 5 none) (page false 1) = false ∧ passedOver (running 5 none) (page true 1) = true
    ∧ choice (running 5 none) 2 = some 1 := by decide

theorem witness_LineContents :
    ((base.table.records.filter fun r => 1 ≤ r.dep.platform && (1#16).getLsbD (r.dep.platform - 1)
        && (decide (r.dep.status ≠ .cancelled) || false))[1 - 1]?) = none
    ∧ (([{ live 1 100 with form := .minutes, shown := some 3 }].filter fun r => 1 ≤ r.dep.platform && (1#16).getLsbD (r.dep.platform - 1)
        && (decide (r.dep.status ≠ .cancelled) || false))[1 - 1]?) = some { live 1 100 with form := .minutes, shown := some 3 } := by
  decide

theorem witness_RenderRequested :
    ({ board with coder := { board.coder with state := .coding } } : State).coder.state = .coding ∧ board.coder.state ≠ .coding
    ∧ board.board.mode = .blank ∧ ((inMode .run board).board.current = none ∧ board.overlays.records = [])
    ∧ ((running 5 (some [blankRecord])).board.current = some 1
      ∧ ({ running 5 (some [blankRecord]) with overlays := ⟨[overlay 1 0], 0⟩ } : State).overlays.records.head? = some (overlay 1 0)
      ∧ (overlay 1 0).scope = .full ∧ [blankRecord].length = (page false 1).lines.length) := by decide

def drawnRecord : LineRecord :=
  { content := .departure (some ⟨4, 1, 3, 3⟩) .minutes (.minutes 12 1001), covered := false, drawn := some 3 }

theorem witness_text_of_lines :
    ((departureLine 1).kind = .departure 1#16 1 false ⟨0, 0⟩ ⟨0, 40⟩ ⟨40, 24⟩
      ∧ drawnRecord.content = .departure (some ⟨4, 1, 3, 3⟩) .minutes (.minutes 12 1001) ∧ 12 ≤ 99
      ∧ blankRecord.content = .departure none .empty .none)
    ∧ ([(⟨3, [65#8], [], [66#8]⟩ : Phrase)].find? (fun q => q.id == 3) = some ⟨3, [65#8], [], [66#8]⟩ ∧ (∀ p ∈ ([] : List Phrase), p.id ≠ 3))
    ∧ (resolveFont ⟨some ⟨8, 1, [⟨65, 8, List.replicate 8 0xFF#8⟩]⟩, none, none⟩ 1).isSome = true ∧ resolveFont base.fonts 1 = none
    ∧ (MissingGlyph none 127 ∧ MissingGlyph (some ⟨8, 1, []⟩) 65)
    ∧ (overlay 1 0).present = .still ∧ 8 < textWidth none [65, 66] ∧ textWidth none [65] ≤ 8 := by
  refine ⟨by decide, by decide, by decide, by decide, ⟨Or.inr (by decide), fun g h => by simp at h⟩, by decide, by decide, by decide⟩

/-- R82 and R110: a single digit of minutes has no leading zero, and a code without a glyph is a box of 4 columns. -/
theorem test_text_and_boxes :
    timeCodes { base with phrases := [⟨1001, [109#8], [], []⟩] } 0 .minutes (.minutes 7 1001) = [55, 32, 109]
    ∧ timeCodes base 0 .minutes (.minutes 12 1001) = [49, 50]
    ∧ textWidth none [10, 32] = 10 := by decide

/-- The layout of a board with one panel, as the test pattern's statement asks of it. -/
theorem witness_layout : LayoutOk board.board ∧ FullStyle base none 15#4 0#4 0 ∧ FullStyle (running 5 none) none 1#4 0#4 0 := by
  refine ⟨⟨by decide, by decide, by decide, by decide, by decide +kernel, ?_, ?_, ?_, ?_, ?_, ?_, fun h => absurd rfl h, by decide⟩, Or.inl ⟨?_, rfl, rfl, rfl, rfl⟩,
    Or.inr ⟨page false 1, departureLine 1, [], rfl, rfl, rfl, rfl, rfl, rfl⟩⟩
  · intro p g h; obtain ⟨rfl, rfl⟩ := places_of_board p g h; decide
  · intro p q g o hpq hp hq; exact absurd ((places_of_board p g hp).1.trans (places_of_board q o hq).1.symm) hpq
  · intro i p h; revert h; fin_cases i <;> simp [board, base, State.fresh, Board.init, pageAt, Pages.none]
  · intro _; refine ⟨rfl, fun i => ?_⟩; fin_cases i <;> rfl
  · intro i h; simp [board, base, State.fresh, Board.init] at h
  · intro rs h; simp [board, base, State.fresh, Board.init] at h
  · intro p h; simp [base, State.fresh, Board.init, currentPage] at h

/-- A board with panel 1 faulted, in BLANK, and the probe count given. -/
def faulted (count : Nat) : State :=
  { board with chain := { board.chain with
      recs := board.chain.recs.set 0 { PanelRecord.init with state := .faulted }, probeCount := count } }

theorem witness_ProbeRounds :
    (0 + 1 < base.chain.probeEvery ∧ ¬ base.chain.probeEvery ≤ base.chain.probeCount)
    ∧ ((faulted 9).chain.probeEvery ≤ 9 + 1
      ∧ Pos.all.filter (fun p => decide (((faulted 9).chain.recs.get p).state = .faulted)) = [0]
      ∧ (faulted 9).chain.work = .idle ∧ (faulted 9).board.mode ≠ .enumerating)
    ∧ Pos.all.filter (fun p => decide ((board.chain.recs.get p).state = .faulted)) = []
    ∧ ({ faulted 10 with chain := { (faulted 10).chain with work := .enumerating } } : State).chain.work ≠ .idle
    ∧ ({ faulted 10 with chain := { (faulted 10).chain with roundDue := true } } : State).chain.roundDue = true
    ∧ TickBlock.chain ∉ base.tickTaken := by decide

theorem witness_CurveTarget :
    base.light.curve.length = 6 ∧ base.light.curve.Pairwise (fun p q => p.c < q.c) ∧ base.light.curve.head? = some ⟨0, 16⟩
    ∧ base.light.curve.getLast? = some ⟨30000, 255⟩
    ∧ base.light.curve = [⟨0, 16⟩] ++ ⟨200, 32⟩ :: ⟨1000, 80⟩ :: [⟨4000, 160⟩, ⟨12000, 230⟩, ⟨30000, 255⟩]
    ∧ 200 ≤ 200 ∧ 999 < 1000 := by decide

/-! ### Witnesses: the signline and the replies -/

def receiving (rx : Receiver) : State := { base with line := { base.line with rx := rx } }

/-- A STATUS to unit 5 with tag 9 (spec/13 section 13.2), short of its last CRC character. -/
def statusFrame : List Byte := [0x05#8, 0x02#8, 0x09#8, 0x00#8, 0xEC#8]

def lastByte : Byte := 0x7D#8

theorem test_crc_of_a_status : crc16 [0x05#8, 0x02#8, 0x09#8, 0x00#8] = 0xEC7D#16 := by decide +kernel

def slotOf (stamp : Nat) : Slot := { heldSlot with stamp := stamp }

def withSlots (sl : Slots) (next : Nat) (s : State) : State := { s with line := { s.line with slots := sl, nextStamp := next } }

def reply (carried : Carried) : Reply := { seq := 0, dest := 5#8, kind := 2#8, tag := 1#8, payload := [0#8], carried := carried }

def sendingOf (r : Reply) : State := { base with line := { base.line with sending := some r } }

theorem witness_ReceiverMoves :
    base.line.sending = none ∧ (replying .nothing base).line.sending ≠ none ∧ base.line.rx = .hunt
    ∧ (receiving .idleSeen).line.rx = .idleSeen
    ∧ (receiving (.inFrame [5#8, 2#8, 9#8])).line.rx = .inFrame [5#8, 2#8, 9#8]
    ∧ ([5#8, 2#8, 9#8].length = 3 ∧ 240 < (241#8).toNat) ∧ (240#8).toNat ≤ 240
    ∧ ¬ ((base.line.straps.parity = true ∧ false ≠ parityBit 0xC3#8) ∨ true = false)
    ∧ [5#8, 2#8, 9#8, 0#8][3]? = some 0#8 ∧ [5#8, 2#8, 9#8, 0#8].length + 1 < 6 + (0#8).toNat := by decide

theorem witness_FrameJudged :
    (receiving (.inFrame statusFrame)).line.rx = .inFrame (0x05#8 :: 0x02#8 :: 0x09#8 :: 0x00#8 :: statusFrame.drop 4)
    ∧ (statusFrame.drop 4).length = (0x00#8).toNat + 1
    ∧ (statusFrame.drop 4) ++ [lastByte] = bytes16 0xEC7D#16 ∧ (statusFrame.drop 4) ++ [lastByte + 1] ≠ bytes16 0xEC7D#16
    ∧ (0x02#8).msb = false ∧ (0x82#8).msb = true ∧ addressingOf base.line 5#8 = some .unit ∧ addressingOf base.line 127#8 = some .broadcast
    ∧ addressingOf base.line 9#8 = none ∧ base.line.slots.s1 = none
    ∧ (withSlots ⟨some (slotOf 0), some (slotOf 1), some (slotOf 2)⟩ 3 base).line.slots.s3 ≠ none := by decide

/-- The STATUS is kept by FRAME_COMPLETE, and a wrong last character is counted. -/
theorem test_frame_complete :
    (heldFrames (after (.frameComplete lastByte) (receiving (.inFrame statusFrame))).line.slots).length = 1
    ∧ (after (.frameComplete (lastByte + 1)) (receiving (.inFrame statusFrame))).line.crc = 1 := by decide +kernel

theorem witness_FrameReceived :
    [1#8].length ≤ 240 ∧ (0x23#8).msb = false ∧ (receiving .idleSeen).line.sending = none ∧ (receiving .idleSeen).line.rx = .idleSeen
    ∧ addressingOf (receiving .idleSeen).line 5#8 = some .unit ∧ (receiving .idleSeen).line.slots.s1 = none := by decide

theorem witness_BreakAndLinkReset :
    base.line.sending = none
    ∧ (({ base with line := { base.line with breakOn := true, resetRaised := true } } : State).line.resetRaised = true)
    ∧ ({ base with line := { base.line with breakOn := true } } : State).line.resetRaised = false := by decide

/-- R29: a link reset after the taking of a BATCH_CLOSE leaves the batch to it, and the close then publishes. -/
theorem test_held_close_survives_link_reset :
    ((after (.batchClose viaU 6#8) (after .linkReset { openBatch ⟨6, .replace [dep 3 100], 5, 30⟩ base with
        handler := { current := some ⟨{ heldSlot with kind := 0x23#8, payload := [6#8] }, false⟩, reset := .none } })).table.records.map
          fun r => r.dep.trip) = [3] := by decide

theorem witness_OldestFrameTaken :
    heldFrames base.line.slots = []
    ∧ (heldFrames (withSlots ⟨some (slotOf 0), some (slotOf 65535), none⟩ 1 base).line.slots ≠ []
      ∧ base.handler.current = none ∧ base.handler.reset = .none)
    ∧ isReadingKind 0x32#8 = false ∧ (isReadingKind 0x02#8 = true ∧ ({ heldSlot with addressing := .group } : Slot).addressing ≠ .unit)
    ∧ decodeRequest viaU 0x32#8 [2#8, 0#8] = .refuse .badLength ∧ decodeRequest viaU 0x03#8 [2#8] = .refuse .badField
    ∧ decodeRequest viaU 0x32#8 [2#8] = .request (.setMode viaU 2#8) := by decide

theorem witness_kinds_and_sizes :
    ¬ KindNamed 0x07#8 ∧ (KindNamed 0x33#8 ∧ ¬ SizeFits 0x33#8 [0#8, 5#8, 0#8, 0#8, 1#8]) ∧ (KindNamed 0x03#8 ∧ 1 < (2#8).toNat)
    ∧ SizeFits 0x60#8 [15#8, 1#8, 9#8, 9#8, 9#8] ∧ SizeFits 0x03#8 [1#8] := by
  refine ⟨?_, ⟨Or.inr (Or.inl rfl), ?_⟩, ⟨Or.inl ⟨1, by decide⟩, by decide⟩, Or.inr (Or.inr (Or.inr (Or.inr ⟨rfl, 1#8, rfl, rfl⟩))),
    Or.inl (by decide)⟩
  · simp [KindNamed, fixedSizes]
  · simp [SizeFits, fixedSizes]

/-- Across the wrap, stamp 65,535 is older than stamp 0. -/
theorem test_oldest_across_the_wrap :
    ((after .requestTake (withSlots ⟨some (slotOf 0), some (slotOf 65535), none⟩ 1 base)).handler.current.map fun h => h.slot.stamp)
      = some 65535 := by decide

theorem witness_RepliesSent :
    (({ base with line := { base.line with waiting := [reply .nothing] } } : State).line.waiting = reply .nothing :: []
      ∧ base.line.sending = none)
    ∧ (sendingOf (reply .nothing)).line.sending = some (reply .nothing) ∧ (reply .reset).carried = .reset
    ∧ (reply (.panels (Per8.all 1) (Per8.all 0))).carried = .panels (Per8.all 1) (Per8.all 0)
    ∧ (reply (.status [0] true 1 2 3 4)).carried = .status [0] true 1 2 3 4 := by decide

theorem test_receiver_idle_is_not_in_a_frame (got : List Byte) : base.line.rx ≠ .inFrame got := by
  simp [base, State.fresh, Line.init]

theorem witness_LineSettings :
    (admission (.setGroups viaU 64#8 126#8) base).isSome = true ∧ ((64 ≤ (64#8).toNat ∧ (126#8).toNat ≤ 126) ∧ 64#8 ≠ 126#8)
    ∧ ((70#8 = 70#8) ∧ 70#8 ≠ 0#8) ∧ ¬ (64 ≤ (63#8).toNat) ∧ ¬ ((127#8).toNat ≤ 126)
    ∧ (admission (.setReplyMode viaU 1#8) base).isSome = true ∧ (admission (.setReplyMode viaU 0#8) (suppressed base)).isSome = true
    ∧ 1 < (2#8).toNat := by decide

theorem witness_StatusReply : viaU.addressing = .unit ∧ (admission (.status viaU) base).isSome = true := by decide

theorem witness_BlockReplies :
    viaU.addressing = .unit ∧ (admission (.identify viaU) base).isSome = true ∧ (admission (.readClock viaU) base).isSome = true
    ∧ (admission (.readLight viaU) base).isSome = true ∧ (admission (.listOverlays viaU) base).isSome = true
    ∧ (admission (.storeReport viaU) base).isSome = true ∧ (admission (.panelReport viaU) base).isSome = true := by decide

/-- Two records, in order. -/
def twoTrips : State := { base with table := { base.table with records := [live 9 100, live 2 101] } }

theorem witness_TableQueries :
    (admission (.readDeparture viaU 2#16) twoTrips).isSome = true ∧ (2#16 ≠ 0#16)
    ∧ twoTrips.table.records = [live 9 100] ++ live 2 101 :: [] ∧ (live 2 101).dep.trip = (2#16).toNat
    ∧ (∀ q ∈ [live 9 100], q.dep.trip ≠ (2#16).toNat) ∧ (∀ q ∈ twoTrips.table.records, q.dep.trip ≠ (3#16).toNat)
    ∧ (admission (.listDepartures viaU 95#8) twoTrips).isSome = true ∧ (95#8).toNat ≤ 95 ∧ 95 < (96#8).toNat := by decide

theorem witness_LineQuery :
    (admission (.queryLine viaU 0#8) (running 5 none)).isSome = true ∧ (base.board.mode ≠ .run ∧ base.board.mode ≠ .hold)
    ∧ (running 5 none).board.mode = .run ∧ 7 < (8#8).toNat ∧ (7#8).toNat ≤ 7 ∧ (inMode .hold board).board.current = none
    ∧ (running 5 none).board.current = some 1 ∧ pageAt (running 5 none).board.pages 1 = some (page false 1)
    ∧ (page false 1).lines.length ≤ (1#8).toNat ∧ (page false 1).lines[(0#8).toNat]? = some (departureLine 1)
    ∧ (running 5 (some [blankRecord])).board.lines = some [blankRecord] ∧ [blankRecord][(0#8).toNat]? = some blankRecord := by decide

theorem witness_NoticesOfferedAndEnabled :
    enableOf base.notices.enables (noticeClass .clockLocked) = true ∧ base.notices.queue.length < 8
    ∧ enableOf ⟨true, false, true, true, true, true, true, true, true⟩ (noticeClass .clockLocked) = false
    ∧ 8 ≤ (List.replicate 8 (⟨0, .line, 0, 0, 0⟩ : Notice)).length
    ∧ (admission (.enableNotices viaU 511#16) base).isSome = true ∧ (511#16).toNat < 512 ∧ 512 ≤ (512#16).toNat := by decide

def clockAt (st : ClockState) (agree : Nat) : State :=
  { base with clock := { base.clock with state := st, day := 412, value := 480000, agree := agree } }

theorem witness_TimeMarkTaken :
    (admission (.timeMark viaU 412#16 107999#24 15#8) base).isSome = true ∧ ((107999#24).toNat ≤ 107999 ∧ (15#8).toNat ≤ 15)
    ∧ 107999 < (108000#24).toNat ∧ 15 < (16#8).toNat ∧ base.clock.state = .unset
    ∧ ((clockAt .acquiring 0).clock.state ≠ .unset ∧ (411#16).toNat ≠ (clockAt .acquiring 0).clock.day)
    ∧ (((30002 : Int) * 16 + 0 - (clockAt .acquiring 0).clock.value).natAbs ≤ (clockAt .acquiring 0).clock.tol * 16)
    ∧ ¬ ((30002 : Int) * 16 + 1 - (clockAt .locked 0).clock.value).natAbs ≤ (clockAt .locked 0).clock.tol * 16
    ∧ (412#16).toNat = (clockAt .acquiring 0).clock.day ∧ (clockAt .acquiring 0).clock.agree + 1 < (clockAt .acquiring 0).clock.k
    ∧ (clockAt .acquiring 1).clock.k ≤ (clockAt .acquiring 1).clock.agree + 1 ∧ (clockAt .coasting 0).clock.state = .coasting
    ∧ (clockAt .lapsed 0).clock.state = .lapsed := by decide

/-! ### Witnesses: the requests -/

def countdownFields : RawCountdown := ⟨0#8, 0#8, 5#8, 0#8, 1001#16, 1002#16, 1003#16, 1004#16, 1005#16⟩

theorem witness_RulesSet :
    (admission (.setRetirement viaU 29#16) base).isSome = true ∧ (admission (.setBatchWindows viaU 0#8 121#8) base).isSome = true
    ∧ (admission (.setClockRules viaU 5#8 9#8 601#16 59#16) base).isSome = true
    ∧ (admission (.setChainRules viaG 8#8 16#8 4#8) base).isSome = true ∧ (admission (.setCountdown viaU countdownFields) board).isSome = true := by
  decide

/-- spec/05 section 5.7.3: the reply carries 0, 0, 5 and RISE_CONFIRM 1. R25: G and W as clamped. -/
theorem test_rules_clamped :
    (answer (after (.setCountdown viaU countdownFields) base)).take 5 = [0#8, 0#8, 0#8, 5#8, 1#8]
    ∧ answer (after (.setBatchWindows viaU 0#8 121#8) base) = [0#8, 1#8, 120#8]
    ∧ answer (after (.setRetirement viaU 29#16) base) = [0#8, 0#8, 30#8] := by decide

def replacing (set : List Departure) : State := openBatch ⟨6, .replace set, 5, 30⟩ base

def merging (cs : List Change) : State := openBatch ⟨6, .merge cs, 5, 30⟩ base

theorem witness_BatchOpenedAndFilled :
    (admission (.batchOpen viaU 1#8 1#8) base).isSome = true ∧ (1#8 ≠ 0#8 ∧ base.batch.stage = none) ∧ 1 < (2#8).toNat
    ∧ (merging []).batch.stage = some ⟨6, .merge [], 5, 30⟩
    ∧ (admission (.putDeparture viaU (rawDeparture (dep 1 100))) base).isSome = true ∧ (admission (.dropDeparture viaU 1#16) base).isSome = true
    ∧ (admission (.dropDeparture viaU 0#16) (merging [])).isSome = true
    ∧ (admission (.putDeparture viaU (rawDeparture (dep 4 100))) (replacing [dep 3 100])).isSome = true
    ∧ [dep 3 100].Pairwise (fun p q => p.trip < q.trip) ∧ (∀ q ∈ [dep 3 100], q.trip ≠ (dep 4 100).trip) ∧ [dep 3 100].length < 96
    ∧ (∃ q ∈ [dep 3 100], q.trip = (dep 3 200).trip) ∧ (admission (.dropDeparture viaU 3#16) (merging [.put (dep 3 100)])).isSome = true
    ∧ (∃ q ∈ [Change.put (dep 3 100)], changeTrip q = changeTrip (.drop 3))
    ∧ (∀ q ∈ [Change.put (dep 3 100)], changeTrip q ≠ changeTrip (.drop 4)) := by decide

theorem witness_departures :
    DepartureOk (dep 65535 107999) ∧ BadDeparture (rawDeparture { dep 1 100 with platform := 17 })
    ∧ BadDeparture { rawDeparture (dep 1 100) with predicted := 0xFFFFFE#24 }
    ∧ ¬ BadDeparture { rawDeparture (dep 1 100) with predicted := 0xFFFFFF#24 } := by
  refine ⟨by simp [DepartureOk, dep], ?_, ?_, ?_⟩ <;> unfold BadDeparture <;> decide

theorem witness_full_stages :
    ((List.range 96).map fun i => dep (i + 1) 100).Pairwise (fun p q => p.trip < q.trip)
    ∧ 96 ≤ ((List.range 96).map fun i => dep (i + 1) 100).length ∧ (∀ q ∈ (List.range 96).map fun i => dep (i + 1) 100, q.trip ≠ 97)
    ∧ 48 ≤ ((List.range 48).map fun i => Change.drop (i + 1)).length
    ∧ ∀ q ∈ (List.range 48).map fun i => Change.drop (i + 1), changeTrip q ≠ 49 := by decide +kernel

/-- R23: a restaged trip keeps its place, and the reply carries the staged count. -/
theorem test_restaged_change :
    answer (after (.dropDeparture viaU 3#16) (merging [.put (dep 3 100), .drop 8])) = [0#8, 2#8]
    ∧ (after (.dropDeparture viaU 3#16) (merging [.put (dep 3 100), .drop 8])).batch.stage = some ⟨6, .merge [.drop 3, .drop 8], 5, 30⟩ := by
  decide

theorem witness_BatchClosed :
    (admission (.batchClose viaU 6#8) (replacing [dep 3 100])).isSome = true
    ∧ (replacing [dep 3 100]).batch.stage = some ⟨6, .replace [dep 3 100], 5, 30⟩ ∧ 6 = (6#8).toNat
    ∧ (armed 1 (merging [])).sup.state = .armed ∧ base.sup.state = .disarmed
    ∧ (({ merging [] with sup := { base.sup with state := .expired } } : State).sup.state = .expired)
    ∧ base.batch.stage = none ∧ 6 ≠ (7#8).toNat ∧ TableOk base.table ∧ StagedOk (.replace [dep 3 100]) := by
  refine ⟨by decide, by decide, by decide, by decide, by decide, by decide, by decide, by decide, ?_, ?_⟩
  · unfold TableOk; decide
  · unfold StagedOk; decide

/-- A good close publishes in order; a bad close expires an armed supervisor with cause BAD_CLOSE, argument 1. -/
theorem test_closes :
    ((after (.batchClose viaU 6#8) (replacing [dep 3 100, dep 4 90])).table.records.map fun r => r.dep.trip) = [4, 3]
    ∧ (after (.batchClose viaU 7#8) (armed 9 (replacing [dep 3 100]))).sup.state = .expired
    ∧ ((after (.batchClose viaU 7#8) (armed 9 (replacing [dep 3 100]))).notices.queue.map fun n => n.arg) = [1] := by decide

theorem witness_PlacingAndRemoving :
    TableOk twoTrips.table ∧ (∃ r ∈ twoTrips.table.records, r.dep.trip = (dep 2 50).trip)
    ∧ (∀ r ∈ twoTrips.table.records, r.dep.trip ≠ (dep 5 50).trip) ∧ twoTrips.table.records.length < 96
    ∧ twoTrips.table.records = [live 9 100] ++ live 2 101 :: [] := by
  refine ⟨?_, by decide, by decide, by decide, by decide⟩
  unfold TableOk; decide

theorem witness_full_table :
    TableOk { base.table with records := (List.range 96).map fun i => live (i + 1) i }
    ∧ ((List.range 96).map fun i => live (i + 1) i).length = 96 ∧ ∀ r ∈ (List.range 96).map fun i => live (i + 1) i, r.dep.trip ≠ 97 := by
  refine ⟨?_, by decide +kernel, by decide +kernel⟩
  unfold TableOk; decide +kernel

theorem witness_SupervisorSet :
    (admission (.setSupervisor viaU 9#16 2#8 1#8 1#8) base).isSome = true ∧ (armed 5 base).sup.state ≠ .disarmed
    ∧ base.sup.state = .disarmed ∧ 2 < (3#8).toNat ∧ 1 < (2#8).toNat ∧ 2#8 = supActionByte .noticeOnly ∧ 1#8 = holdByte .pause
    ∧ (1#8).toNat ≤ 1 := by decide

theorem witness_BoardDeclaredAndEnumerated :
    (admission (.setBoard viaU 512#16 128#8 8#8) base).isSome = true
    ∧ (64 ≤ (512#16).toNat ∧ (512#16).toNat ≤ 512 ∧ (512#16).toNat % 64 = 0 ∧ (128#8).toNat % 16 = 0 ∧ (8#8).toNat ≤ 8)
    ∧ (inMode .run board).board.mode ≠ .blank ∧ (board.board.mode = .blank ∧ board.coder.state = .idle)
    ∧ (({ board with coder := { board.coder with state := .coding } } : State).coder.state ≠ .idle) ∧ base.chain.work = .idle
    ∧ ({ board with chain := { board.chain with work := .probing 0 [] false } } : State).chain.work = .probing 0 [] false
    ∧ (inMode .enumerating base).board.mode = .enumerating
    ∧ ({ base with chain := { base.chain with work := .enumerating } } : State).chain.work = .enumerating
    ∧ packetBytes (.enumerate 3#8) ≠ packetBytes (.enumerate 2#8) ∧ (3#8 ≠ 0#8 ∧ 2 = (3#8).toNat - 1) := by decide

def panelFields : RawPanel := ⟨2#8, 64#16, 16#8, 64#8, 16#8, 16#8, 128#8, 128#8, 128#8⟩

theorem witness_PanelPlaced :
    (admission (.setPanel viaU panelFields) board).isSome = true ∧ base.board.mode = .unconfigured
    ∧ (board.board.mode ≠ .unconfigured ∧ board.board.mode ≠ .enumerating) ∧ PanelFits board panelFields 1
    ∧ ∀ p, ¬ PanelFits board { panelFields with position := 3#8 } p := by
  refine ⟨by decide, by decide, by decide, ?_, ?_⟩
  · refine ⟨by decide, by decide, by decide, by decide, by decide, by decide, by decide, by decide, by decide, by decide, ?_⟩
    intro q o hq ho
    have : q = 0 := by
      revert ho; revert q; intro q; fin_cases q <;> simp [board, base, State.fresh, Board.init, Per8.set, Per8.tabulate, Per8.get, Per8.all]
    subst this
    simp [board, base, State.fresh, Board.init, Per8.set, Per8.tabulate, Per8.get, Per8.all] at ho
    subst ho; decide
  · intro p h
    have h1 := h.1; have h2 := h.2.1
    simp at h1
    simp [board] at h2
    omega

theorem witness_ModeSet :
    (admission (.setMode viaU 3#8) board).isSome = true ∧ base.board.mode = .unconfigured ∧ (1#8).toNat < 2 ∧ 5 < (6#8).toNat
    ∧ 2#8 = boardModeByte board.board.mode ∧ (running 5 none).board.mode = .run ∧ 3#8 ≠ boardModeByte board.board.mode
    ∧ choice base 0 = none ∧ choice (running 5 none) 0 = some 1 ∧ 4#8 ≠ boardModeByte board.board.mode := by decide

def bandLine : RawLine := ⟨0#8, 8#8, 0#16, 64#16, 0#8, 1#8, 0#8, .band 9#16⟩

theorem witness_PageStored :
    (admission (.setPage viaU 3#8 1#8 2#8 1#8 [bandLine]) board).isSome = true
    ∧ (readLine board.board.width board.board.height bandLine).isSome = true
    ∧ LineReads 128 32 bandLine ⟨0, 8, 0, 64, 0, 1, 0, .band 9⟩
    ∧ readLine board.board.width board.board.height { bandLine with body := .band 0#16 } = none
    ∧ BadPage board.board 0#8 0#8 0#8 [bandLine, bandLine] ∧ ¬ BadPage board.board 3#8 2#8 1#8 []
    ∧ ¬ BadPage board.board 3#8 2#8 1#8 [bandLine] := by
  refine ⟨by decide, by decide, ⟨by decide, by decide, by decide, by decide, by decide, by decide, by decide,
    ⟨by decide, by decide, rfl⟩, rfl⟩, by decide, ?_, ?_, ?_⟩
  · exact Or.inr (Or.inr (Or.inr (Or.inr (Or.inr ⟨0, 1, by decide, bandLine, bandLine, rfl, rfl, by decide, by decide⟩))))
  · unfold BadPage; simp
  · unfold BadPage
    simp [bandLine, board]
    rintro i j hij l hl m hm
    rcases i with _ | i <;> rcases j with _ | j <;> simp_all

theorem witness_OverlaysPushedAndWithdrawn :
    (admission (.pushOverlay viaU ⟨255#8, 1#8, 1023#16, 1#8, 7#8, 0#16⟩) base).isSome = true
    ∧ ¬ (255#8 = 0#8 ∨ 1 < (1#8).toNat ∨ 1023#16 = 0#16 ∨ 1023 < (1023#16).toNat) ∧ 1023 < (1024#16).toNat ∧ 1 < (2#8).toNat
    ∧ [overlay 1 0, overlay 2 0, overlay 3 0, overlay 4 0].length ≤ 4
    ∧ ([overlay 1 0, overlay 2 0, overlay 3 0, overlay 4 0].filter (fun q => q.id ≠ (255#8).toNat))[3]? = some (overlay 4 0)
    ∧ (admission (.withdrawOverlay viaU 2#8) base).isSome = true ∧ 2#8 ≠ 0#8 ∧ (∀ q ∈ base.overlays.records, q.id ≠ (2#8).toNat)
    ∧ [overlay 1 0, overlay 2 0, overlay 3 0] = overlay 1 0 :: [] ++ overlay 2 0 :: [overlay 3 0]
    ∧ ∀ q ∈ overlay 1 0 :: [] ++ [overlay 3 0], q.id ≠ (2#8).toNat := by decide

/-- R91: a fifth overlay displaces the lowest, whose id the reply and the notice carry. -/
theorem test_overlay_displaced :
    answer (after (.pushOverlay viaU ⟨9#8, 1#8, 1#16, 0#8, 8#8, 0#16⟩)
      { base with overlays := ⟨[overlay 1 0, overlay 2 0, overlay 3 0, overlay 4 0], 5⟩ }) = [0#8, 4#8, 0#8, 4#8] := by decide

def phraseOf (id cells : Nat) : Phrase := { id := id, v0 := List.replicate cells 65#8, v1 := [], v2 := [] }

theorem witness_PhrasesSetAndDropped :
    (admission (.setPhrase viaU 1023#16 [65#8] [] [66#8]) { base with phrases := [phraseOf 2 3] }).isSome = true
    ∧ [phraseOf 2 3, phraseOf 7 1].Pairwise (fun p q => p.id < q.id) ∧ [phraseOf 2 3].filter (fun p => p.id ≠ (1023#16).toNat) = [phraseOf 2 3]
    ∧ [phraseOf 2 3].filter (fun p => p.id ≠ (2#16).toNat) ≠ [phraseOf 2 3] ∧ (1023#16).toNat ≤ 1023 ∧ 1023 < (1024#16).toNat
    ∧ (admission (.dropPhrase viaU 2#16) { base with phrases := [phraseOf 2 3] }).isSome = true := by decide

theorem witness_full_phrase_store :
    ((List.range 256).map fun i => phraseOf (i + 1) 48).Pairwise (fun p q => p.id < q.id)
    ∧ ((List.range 256).map fun i => phraseOf (i + 1) 48).length = 256
    ∧ (((List.range 256).map fun i => phraseOf (i + 1) 48).map fun p => p.v0.length + p.v1.length + p.v2.length).sum = 12288 := by
  decide +kernel

def font1 : Font := { height := 8, spacing := 1, glyphs := [⟨65, 8, List.replicate 8 0xFF#8⟩] }

def withFont : State := { base with fonts := ⟨some font1, none, none⟩ }

theorem witness_GlyphsSetAndFontDropped :
    (admission (.setGlyphs viaU 1#8 8#8 1#8 65#8 [9#8] (List.replicate 16 0#8)) withFont).isSome = true
    ∧ ([9#8].map fun w => (8#8).toNat * (((w : Byte).toNat + 7) / 8)).sum = 16 ∧ (List.replicate 16 0#8).length = 16
    ∧ uploaded withFont.fonts (1#8).toNat = some font1 ∧ uploaded base.fonts (3#8).toNat = none ∧ (3#8).toNat ≤ 3 ∧ 3 < (4#8).toNat
    ∧ (admission (.dropFont viaU 1#8) withFont).isSome = true ∧ 255 < (224#8).toNat + 33 - 1 ∧ (4#8).toNat < 5 ∧ 24 < (25#8).toNat := by decide

/-- A pool with its 24,576 bytes in use leaves no space for one glyph. -/
theorem witness_full_bitmap_pool :
    24576 < bytesUsed ⟨some { font1 with glyphs := (List.range 256).map fun i => ⟨i, 8, []⟩, height := 24 },
      some { font1 with glyphs := (List.range 256).map fun i => ⟨i, 16, []⟩, height := 24 },
      some { font1 with glyphs := (List.range 256).map fun i => ⟨i, 8, []⟩, height := 24 }⟩ + 8 - 0 := by decide +kernel

theorem witness_ColoursAndBrightnessSet :
    (admission (.setPalette viaU 15#8 [⟨1#8, 2#8, 3#8⟩]) base).isSome = true ∧ (15#8).toNat + 1 ≤ 16 ∧ base.coder.palette.length = 16
    ∧ 15 < (16#8).toNat ∧ (admission (.setBrightness viaU ⟨1#8, 180#8, 33#8, 0#8, 9#8, 8#8⟩) base).isSome = true
    ∧ 1#8 = brightModeByte .fixed ∧ 1 < (2#8).toNat
    ∧ (admission (.setLightCurve viaU ⟨⟨0#16, 1#8⟩, ⟨1#16, 1#8⟩, ⟨2#16, 1#8⟩, ⟨3#16, 1#8⟩, ⟨4#16, 1#8⟩, ⟨65535#16, 1#8⟩⟩) base).isSome = true
    ∧ [0, 1, 2, 3, 4, 65535].Pairwise (fun p q : Nat => p < q) ∧ ¬ [0, 1, 2, 3, 3, 65535].Pairwise (fun p q : Nat => p < q) := by decide

/-- Table 10-4's note: FIXED 180 acts at once, and H, S and Bmin come back clamped (R150). -/
theorem test_brightness_fixed :
    answer (after (.setBrightness viaU ⟨1#8, 180#8, 33#8, 0#8, 9#8, 200#8⟩) base) = [0#8, 1#8, 180#8, 32#8, 1#8, 9#8, 200#8, 180#8] := by decide

/-! ### Witnesses: frames, the chain and the invariant -/

/-- The board with panel 1 marked in both sets. -/
def marked : State :=
  { board with coder := { board.coder with dirty := board.coder.dirty.set 0 true, palDirty := board.coder.palDirty.set 0 true } }

def place1 : Placement := ⟨0, 0, 64, 16, 4, 128, 128, 128⟩

def coding : State :=
  { board with coder := { board.coder with state := .coding, number := 1, record := some ⟨1, [⟨0, place1, true, none⟩]⟩ } }

def delivering (work : ChainWork) : State :=
  { coding with coder := { coding.coder with state := .delivering }, chain := { coding.chain with work := work } }

theorem witness_FrameStarts :
    (∀ p, decide (p = 0) = true ↔ (marked.board.places.get p).isSome = true
      ∧ ((marked.chain.recs.get p).state = .active ∨ (marked.chain.recs.get p).state = .failing)
      ∧ (marked.coder.dirty.get p = true ∨ marked.coder.palDirty.get p = true))
    ∧ marked.coder.state = .idle ∧ Pos.all.filter (fun p => decide (p = 0)) = [0] ∧ marked.board.places.get 0 = some place1
    ∧ marked.coder.dirty.get 0 = true ∧ coding.coder.state ≠ .idle
    ∧ (∀ p, false = true ↔ (board.board.places.get p).isSome = true
      ∧ ((board.chain.recs.get p).state = .active ∨ (board.chain.recs.get p).state = .failing)
      ∧ (board.coder.dirty.get p = true ∨ board.coder.palDirty.get p = true)) := by decide

/-- A palette mark alone starts a frame without stripes, which goes to the chain at once. -/
theorem test_palette_frame_starts :
    (after (.setPalette viaU 1#8 [⟨1#8, 2#8, 3#8⟩]) board).coder.state = .delivering
    ∧ (after (.setPalette viaU 1#8 [⟨1#8, 2#8, 3#8⟩]) board).coder.number = 1 := by decide +kernel

theorem witness_FrameDelivered :
    (coding.coder.state = .coding ∧ coding.coder.record.isSome = true ∧ coding.chain.work = .idle ∧ coding.chain.roundDue = false)
    ∧ ({ coding with chain := { coding.chain with work := .probing 0 [] false } } : State).chain.work ≠ .idle
    ∧ ((delivering .idle).coder.state = .delivering ∧ (delivering .idle).coder.record.isSome = true ∧ (delivering .idle).chain.work = .idle)
    ∧ (delivering (.delivering none [] (Per8.all false))).chain.work = .delivering none [] (Per8.all false) := by decide

/-- The first packet of a delivery with stripes alone is stripe 0 of panel 1. -/
theorem test_delivery_sends_stripe_0 :
    (match (after .codingComplete coding).chain.out with
      | some (.stripe f p n rows) => (f, p, n, rows.length)
      | _ => (0#8, 7, 0#8, 0)) = (1#8, 0, 0#8, 8) := by decide +kernel

theorem witness_FrameAnswers :
    (delivering (.delivering (some ⟨.stripe 0 0, 4⟩) [.stripe 0 1] (Per8.all false))).chain.work =
      .delivering (some ⟨.stripe 0 0, 4⟩) [.stripe 0 1] (Per8.all false)
    ∧ (∃ x ∈ [Item.stripe 0 1], itemPos x = itemPos (.stripe 0 0)) ∧ (∀ x ∈ ([] : List Item), itemPos x ≠ 0)
    ∧ 3 ≤ coding.chain.retryLimit ∧ coding.chain.retryLimit < 4 ∧ packetBytes (.ack 1) ≠ packetBytes (.ack 0) := by decide

/-- The fourth failed answer of a packet, with RETRY_LIMIT 3, gives the panel up. -/
theorem test_fourth_failure_gives_up :
    ((after .answerTimeout (delivering (.delivering (some ⟨.stripe 0 0, 3⟩) [] (Per8.all false)))).chain.recs.get 0).state = .active
    ∧ ((after .answerTimeout (delivering (.delivering (some ⟨.stripe 0 0, 4⟩) [] (Per8.all false)))).chain.recs.get 0).state = .failing := by
  decide +kernel

theorem witness_ProbeAnswers :
    ({ faulted 0 with chain := { (faulted 0).chain with work := .probing 0 [] true } } : State).chain.work = .probing 0 [] true
    ∧ ({ faulted 0 with chain := { (faulted 0).chain with work := .probing 0 [1] false } } : State).chain.work = .probing 0 [1] false
    ∧ packetBytes (.nak 1) ≠ packetBytes (.ack 0) ∧ packetBytes (.nak 1) ≠ packetBytes (.nak 0) := by decide

def panel1 : Panel := { width := 64, height := 16, position := some 1#8, scan := 4, pending := none, rows := [], drive := [] }

theorem witness_StripeReachesPanel :
    (List.replicate 64 0#4).length = 64 ∧ (List.replicate 8 (List.replicate 64 0#4)).length = 8
    ∧ (∀ row ∈ List.replicate 8 (List.replicate 64 0#4), row.length = panel1.width) ∧ panel1.position = some (posByte 0)
    ∧ (1#8).toNat < panel1.height / 8 := by decide

theorem witness_RequestRoundTrip :
    requestVia (.setPage viaU 0#8 5#8 0#8 0#8 [bandLine]) = some viaU ∧ (Instr.setPage viaU 0#8 5#8 0#8 0#8 [bandLine]).wf = true := by
  decide

/-- R169: SET_MODE BLANK as its frame carries it, with the kind code of Table 13-3. -/
theorem test_set_mode_decodes : decodeRequest viaU 0x32#8 [0x02#8] = .request (.setMode viaU 2#8) := by decide

/-- A board in RUN with two records and a command waiting. -/
def working : State :=
  { running 5 none with
    table := twoTrips.table, pending := [.luxInPulse], overlays := ⟨[overlay 1 7], 9⟩, phrases := [phraseOf 2 3], fonts := withFont.fonts,
    batch := (replacing [dep 3 100]).batch, sup := (armed 9 base).sup }

theorem witness_Invariant : Inv working ∧ ∃ t, step working = .next t := by
  refine ⟨⟨?_, ?_, ?_, ?_, ?_, ?_, ?_, ?_, ?_, ?_, ?_, ?_, ?_⟩, ⟨_, rfl⟩⟩
  · unfold TableOk; decide
  · refine ⟨by decide, by decide, by decide, by decide, ?_⟩
    intro x hx
    simp [working, replacing, openBatch, running, inMode] at hx
    subst hx
    unfold StagedOk; decide
  · unfold SupervisorOk; decide
  · unfold ClockOk; decide
  · refine ⟨by decide, by unfold CountdownOk; decide, ?_⟩
    intro r hr
    simp [working, twoTrips] at hr
    rcases hr with rfl | rfl <;> simp [DisplayOk, live, working, running, inMode, board, base, State.fresh, Board.init, Countdown.init]
  · unfold OverlaysOk; decide
  · unfold PhrasesOk PhraseOk; decide
  · refine ⟨?_, by decide⟩
    intro f hf
    simp [working, withFont] at hf
    subst hf
    unfold FontOk; decide
  · unfold LightOk; decide
  · unfold NoticesOk; decide
  · refine ⟨⟨by decide, by decide, by decide, by decide⟩, trivial, by decide, ?_⟩
    intro _ r hr
    simp [working, running, inMode, board, base, State.fresh, Coder.init] at hr
  · refine ⟨by decide, by decide, by decide, by decide, by decide +kernel, ?_, ?_, ?_, ?_, ?_, ?_, fun h => absurd rfl h, by decide⟩
    · intro p g h
      have := places_of_board p g h
      obtain ⟨rfl, rfl⟩ := this; decide
    · intro p q g o hpq hp hq
      exact absurd ((places_of_board p g hp).1.trans (places_of_board q o hq).1.symm) hpq
    · intro i p h
      have : p = page false 1 := by
        revert h; fin_cases i <;> simp [working, running, inMode, pageAt, eq_comm]
      subst this; unfold PageOk; decide
    · intro h; simp [working, running, inMode] at h
    · intro i h
      simp [working, running, inMode] at h; subst h
      exact ⟨page false 1, rfl, by decide, by decide⟩
    · intro rs h; simp [working, running, inMode] at h
  · refine ⟨by decide, by decide, by decide, ?_, ?_, by decide, by decide, by decide, ?_⟩ <;>
      simp [working, running, inMode, board, base, State.fresh, Line.init]

end Sys2Proof.Tests
end

/-! The Departure Table and the rules set by requests: the table's order and its operations, retirement, and the five requests
that clamp their values. -/

section

namespace Sys2Proof.Machine

open Sys2Proof

/-! ### The order of the live table (R5) -/

theorem comesBefore_iff (a b : Departure) :
    comesBefore a b = true ↔ effective a < effective b ∨ (effective a = effective b ∧ a.trip < b.trip) := by
  simp [comesBefore]

theorem effective_le_of_comesBefore {a b : Departure} (h : comesBefore a b = true) : effective a ≤ effective b := by
  rw [comesBefore_iff] at h
  omega

theorem comesBefore_trans {a b c : Departure} (hab : comesBefore a b = true) (hbc : comesBefore b c = true) : comesBefore a c = true := by
  rw [comesBefore_iff] at *
  omega

/-- Of two departures with different trip ids one comes before the other. -/
theorem comesBefore_of_not {a b : Departure} (h : ¬ comesBefore a b = true) (hne : b.trip ≠ a.trip) : comesBefore b a = true := by
  rw [comesBefore_iff] at *
  omega

/-! ### Insertion -/

theorem insertLive_perm (r : Live) (rs : List Live) : (insertLive r rs).Perm (r :: rs) := by
  induction rs with
  | nil => exact List.Perm.refl _
  | cons q qs ih =>
    unfold insertLive
    split
    · exact List.Perm.refl _
    · exact (ih.cons q).trans (List.Perm.swap r q qs)

/-- Inserting a record of a trip id that is not held keeps the order. -/
theorem insertLive_ordered {r : Live} {rs : List Live} (hrs : rs.Pairwise fun p q => comesBefore p.dep q.dep = true)
    (hne : ∀ q ∈ rs, q.dep.trip ≠ r.dep.trip) : (insertLive r rs).Pairwise fun p q => comesBefore p.dep q.dep = true := by
  induction rs with
  | nil => exact List.pairwise_singleton _ _
  | cons q qs ih =>
    obtain ⟨hq, hqs⟩ := List.pairwise_cons.mp hrs
    unfold insertLive
    split
    · next hrq =>
      refine List.pairwise_cons.mpr ⟨fun x hx => ?_, hrs⟩
      rcases List.mem_cons.mp hx with rfl | hx
      · exact hrq
      · exact comesBefore_trans hrq (hq x hx)
    · next hrq =>
      have hqr : comesBefore q.dep r.dep = true := comesBefore_of_not hrq (hne q List.mem_cons_self)
      refine List.pairwise_cons.mpr ⟨fun x hx => ?_, ih hqs fun x hx => hne x (List.mem_cons_of_mem q hx)⟩
      rcases List.mem_cons.mp ((insertLive_perm r qs).mem_iff.mp hx) with rfl | hx
      · exact hqr
      · exact hq x hx

/-! ### Removal by trip id (R8) -/

theorem removeTrip_eq_filter (trip : Nat) (rs : List Live) : removeTrip trip rs = rs.filter fun q => q.dep.trip ≠ trip :=
  List.filter_congr fun q _ => by rw [bne, beq_eq_decide, ← decide_not]

theorem mem_removeTrip {trip : Nat} {rs : List Live} {q : Live} : q ∈ removeTrip trip rs ↔ q ∈ rs ∧ q.dep.trip ≠ trip := by
  simp [removeTrip]

theorem removeTrip_of_absent {trip : Nat} {rs : List Live} (h : ∀ r ∈ rs, r.dep.trip ≠ trip) : removeTrip trip rs = rs :=
  List.filter_eq_self.mpr fun r hr => by simpa using h r hr

/-- Where no trip id is held twice, the records before and after the one removed stay. -/
theorem removeTrip_of_split {before after : List Live} {r : Live}
    (h : ((before ++ r :: after).map fun q => q.dep.trip).Nodup) : removeTrip r.dep.trip (before ++ r :: after) = before ++ after := by
  rw [List.map_append, List.map_cons, List.nodup_middle, List.nodup_cons, ← List.map_append] at h
  have others : ∀ q ∈ before ++ after, q.dep.trip ≠ r.dep.trip :=
    fun q hq heq => h.1 (heq ▸ List.mem_map_of_mem hq)
  calc removeTrip r.dep.trip (before ++ r :: after)
      = removeTrip r.dep.trip (before ++ after) := by simp [removeTrip]
    _ = before ++ after := removeTrip_of_absent others

theorem removeTrip_length {rs : List Live} {r : Live} (h : (rs.map fun q => q.dep.trip).Nodup) (hr : r ∈ rs) :
    (removeTrip r.dep.trip rs).length + 1 = rs.length := by
  obtain ⟨before, after, rfl⟩ := List.append_of_mem hr
  rw [removeTrip_of_split h]
  simp only [List.length_append, List.length_cons]
  omega

/-! ### The record a placed departure makes -/

/-- The trip id of a placed departure is that of the record it makes. -/
theorem carryOver_dep (old : List Live) (d : Departure) : (carryOver old d).dep = d := by
  unfold carryOver
  split <;> rfl

theorem findTrip_of_absent {trip : Nat} {rs : List Live} (h : ∀ r ∈ rs, r.dep.trip ≠ trip) : findTrip trip rs = none :=
  List.find?_eq_none.mpr fun r hr => by simpa using h r hr

theorem findTrip_of_mem {rs : List Live} {r : Live} (h : (rs.map fun q => q.dep.trip).Nodup) (hr : r ∈ rs) :
    findTrip r.dep.trip rs = some r := by
  cases hf : findTrip r.dep.trip rs with
  | none => exact absurd (List.find?_eq_none.mp hf r hr) (by simp)
  | some q =>
    have htrip : q.dep.trip = r.dep.trip := by simpa using List.find?_some hf
    exact congrArg some (List.inj_on_of_nodup_map h (List.mem_of_find?_eq_some hf) hr htrip)

/-- R6: a replaced record hands its derived fields on. -/
theorem carryOver_of_held {old : List Live} {r : Live} {d : Departure} (h : (old.map fun q => q.dep.trip).Nodup) (hr : r ∈ old)
    (ht : r.dep.trip = d.trip) : carryOver old d = { r with dep := d } := by
  simp [carryOver, ← ht, findTrip_of_mem h hr]

/-- R7: a new record starts with the initial derived fields. -/
theorem carryOver_of_absent {old : List Live} {d : Departure} (h : ∀ r ∈ old, r.dep.trip ≠ d.trip) : carryOver old d = fresh d := by
  simp [carryOver, findTrip_of_absent h]

/-! ### Placing (R6, R7) -/

/-- The table with a departure placed, before any trimming. -/
def placed (d : Departure) (rs : List Live) : List Live := insertLive (carryOver rs d) (removeTrip d.trip rs)

theorem placed_perm (d : Departure) (rs : List Live) : (placed d rs).Perm (carryOver rs d :: removeTrip d.trip rs) :=
  insertLive_perm _ _

theorem placed_length (d : Departure) (rs : List Live) : (placed d rs).length = (removeTrip d.trip rs).length + 1 :=
  (placed_perm d rs).length_eq

theorem placed_ordered {rs : List Live} (d : Departure) (h : rs.Pairwise fun p q => comesBefore p.dep q.dep = true) :
    (placed d rs).Pairwise fun p q => comesBefore p.dep q.dep = true := by
  refine insertLive_ordered (h.sublist List.filter_sublist) fun q hq => ?_
  rw [carryOver_dep]
  exact (mem_removeTrip.mp hq).2

theorem place_of_room {d : Departure} {rs : List Live} (h : (placed d rs).length ≤ maxLive) : place d rs = (placed d rs, none) :=
  if_pos h

/-- With more records than the table can hold the last in order is trimmed. -/
theorem place_of_full {d : Departure} {rs kept : List Live} {x : Live} (h : placed d rs = kept ++ [x])
    (hlen : maxLive < (placed d rs).length) : place d rs = (kept, some x.dep.trip) := by
  have : place d rs = ((placed d rs).dropLast, (placed d rs).getLast?.map fun r => r.dep.trip) := if_neg (Nat.not_le.mpr hlen)
  simpa [h] using this

/-- R6: placing a held trip id. -/
theorem place_held {t : Table} {d : Departure} {r : Live} (ht : TableOk t) (hr : r ∈ t.records) (htrip : r.dep.trip = d.trip) :
    ∃ rs, place d t.records = (rs, none) ∧ rs.Perm ({ r with dep := d } :: t.records.filter fun q => q.dep.trip ≠ d.trip)
      ∧ rs.Pairwise (fun p q => comesBefore p.dep q.dep = true) ∧ rs.length = t.records.length := by
  obtain ⟨hord, hnd, hmax, -, -⟩ := ht
  have hlen : (placed d t.records).length = t.records.length := by
    rw [placed_length, ← htrip, removeTrip_length hnd hr]
  refine ⟨placed d t.records, place_of_room (hlen ▸ hmax), ?_, placed_ordered d hord, hlen⟩
  have hperm := placed_perm d t.records
  rwa [carryOver_of_held hnd hr htrip, removeTrip_eq_filter] at hperm

/-- R7: placing a trip id that is not held. -/
theorem place_new {t : Table} {d : Departure} (ht : TableOk t) (hne : ∀ r ∈ t.records, r.dep.trip ≠ d.trip) :
    ∃ rs last : List Live, (rs ++ last).Perm ({ dep := d, form := .empty, shown := none, rise := 0 } :: t.records)
      ∧ (rs ++ last).Pairwise (fun p q => comesBefore p.dep q.dep = true)
      ∧ (t.records.length < 96 → last = [] ∧ place d t.records = (rs, none))
      ∧ (t.records.length = 96 → ∃ x, last = [x] ∧ place d t.records = (rs, some x.dep.trip)) := by
  have hperm : (placed d t.records).Perm (fresh d :: t.records) := by
    have := placed_perm d t.records
    rwa [carryOver_of_absent hne, removeTrip_of_absent hne] at this
  have hord := placed_ordered d ht.1
  have hlen : (placed d t.records).length = t.records.length + 1 := hperm.length_eq
  by_cases hroom : t.records.length < 96
  · refine ⟨placed d t.records, [], ?_, ?_, fun _ => ⟨rfl, place_of_room ?_⟩, fun hfull => absurd hfull hroom.ne⟩
    · rwa [List.append_nil]
    · rwa [List.append_nil]
    · rw [hlen]; exact hroom
  · obtain ⟨kept, x, hsplit⟩ : ∃ kept x, placed d t.records = kept ++ [x] :=
      (List.eq_nil_or_concat' (placed d t.records)).resolve_left fun hnil => by simp [hnil] at hlen
    refine ⟨kept, [x], hsplit ▸ hperm, hsplit ▸ hord, fun h => absurd h hroom, fun hfull => ⟨x, rfl, place_of_full hsplit ?_⟩⟩
    rw [hlen, hfull]; decide

/-! ### Change lists (R28) -/

theorem applyChanges_put (d : Departure) (cs : List Change) (rs : List Live) :
    applyChanges (.put d :: cs) rs =
      ((applyChanges cs (place d rs).1).1, (place d rs).2.toList ++ (applyChanges cs (place d rs).1).2) := rfl

theorem applyChanges_drop (trip : Nat) (cs : List Change) (rs : List Live) :
    applyChanges (.drop trip :: cs) rs = applyChanges cs (removeTrip trip rs) := rfl

/-- Settles O40, by the split of the table at the record placed or removed. -/
theorem placingAndRemoving : Obligations.PlacingAndRemoving := by
  refine ⟨fun t d ht => ⟨fun r hr htrip => place_held ht hr htrip, place_new ht, fun trip h => removeTrip_of_absent h, ?_⟩,
    fun d trip cs rs => ⟨rfl, applyChanges_put d cs rs, applyChanges_drop trip cs rs⟩⟩
  intro before r after hsplit
  obtain ⟨-, hnd, -⟩ := ht
  rw [hsplit] at hnd ⊢
  exact removeTrip_of_split hnd

/-! ### Retirement (R11) -/

/-- In a table in order the records that retire stand before those that stay. -/
theorem retire_split (n margin : Nat) {rs : List Live} (h : rs.Pairwise fun p q => comesBefore p.dep q.dep = true) :
    ∃ gone, rs = gone ++ retire n margin rs ∧ ∀ r ∈ gone, effective r.dep + margin < n := by
  induction rs with
  | nil => exact ⟨[], rfl, by simp⟩
  | cons q qs ih =>
    obtain ⟨hq, hqs⟩ := List.pairwise_cons.mp h
    by_cases hkeep : n ≤ effective q.dep + margin
    · have hall : retire n margin (q :: qs) = q :: qs := by
        refine List.filter_eq_self.mpr fun r hr => decide_eq_true ?_
        rcases List.mem_cons.mp hr with rfl | hr
        · exact hkeep
        · have := effective_le_of_comesBefore (hq r hr)
          omega
      exact ⟨[], by simp [hall], by simp⟩
    · obtain ⟨gone, hsplit, hgone⟩ := ih hqs
      have hdrop : retire n margin (q :: qs) = retire n margin qs := List.filter_cons_of_neg (by simpa using hkeep)
      exact ⟨q :: gone, by rw [hdrop, List.cons_append, ← hsplit], List.forall_mem_cons.mpr ⟨Nat.not_le.mp hkeep, hgone⟩⟩

theorem le_of_mem_retire {n margin : Nat} {rs : List Live} {r : Live} (h : r ∈ retire n margin rs) :
    n ≤ effective r.dep + margin := by
  simpa using (List.mem_filter.mp h).2

theorem tableTick_unset {s : State} (h : s.clock.state = .unset) : tableTick s = s := if_pos h

theorem tableTick_set {s : State} (h : s.clock.state ≠ .unset) :
    tableTick s =
      { s with table := { s.table with records := retire (s.clock.value / 16) s.table.retireAfter s.table.records } } := if_neg h

/-- Settles O9, by induction on the table in order. -/
theorem retirementAtTick : Obligations.RetirementAtTick := by
  refine ⟨fun s h => tableTick_unset h, fun s ht h => ?_⟩
  obtain ⟨gone, hsplit, hgone⟩ := retire_split (s.clock.value / 16) s.table.retireAfter ht.1
  exact ⟨gone, _, hsplit, hgone, fun r hr => le_of_mem_retire hr, tableTick_set h⟩

/-! ### The requests that set rules -/

/-- An admitted request ends with the answer its body gives. -/
theorem request_answered {v : Via} {c : Instr} {body : State → State × Answer} {s t : State} {a : Admitted} {ans : Answer}
    (h : admission c s = some a) (hb : body a.state = (t, ans)) : request v c body s = answered v c a ans t := by
  rw [request_of_admit h, hb, answered]

theorem clampTo_zero (hi n : Nat) : clampTo 0 hi n = min hi n := Nat.zero_max _

/-- R48: the slew brought within a tolerance is the nearest value of the range. -/
theorem limitSlew_eq_clamp (tol : Nat) (slew : Int) : limitSlew tol slew = max (-(16 * tol : Int)) (min (16 * tol : Int) slew) := by
  unfold limitSlew
  split
  · omega
  · split <;> omega

theorem setClockRulesBody_eq (k tol coast lapse : Nat) (s : State) (r : Clock)
    (hr : r = { s.clock with
      k := clampTo 1 4 k, tol := clampTo 1 8 tol, coastAfter := clampTo 30 600 coast, lapseAfter := clampTo 60 7200 lapse,
      slew := limitSlew (clampTo 1 8 tol) s.clock.slew }) :
    setClockRulesBody k tol coast lapse s =
      ({ s with clock := r }, done (num1 r.k ++ num1 r.tol ++ num2 r.coastAfter ++ num2 r.lapseAfter)) := by
  subst hr; rfl

theorem exec_setRetirement {v : Via} {m : BitVec 16} {s : State} {a : Admitted} (h : admission (.setRetirement v m) s = some a) :
    exec (.setRetirement v m) s = answered v (.setRetirement v m) a (done (num2 (clampTo 30 600 m.toNat)))
      { a.state with table := { s.table with retireAfter := clampTo 30 600 m.toNat } } := by
  rw [← admission_state_table h]
  exact request_answered h rfl

theorem exec_setBatchWindows {v : Via} {gap total : Byte} {s : State} {a : Admitted}
    (h : admission (.setBatchWindows v gap total) s = some a) :
    exec (.setBatchWindows v gap total) s = answered v (.setBatchWindows v gap total) a
      (done (num1 (clampTo 1 30 gap.toNat) ++ num1 (clampTo 5 120 total.toNat)))
      { a.state with batch := { s.batch with g := clampTo 1 30 gap.toNat, w := clampTo 5 120 total.toNat } } := by
  rw [← admission_state_batch h]
  exact request_answered h rfl

theorem exec_setClockRules {v : Via} {k tol : Byte} {coast lapse : BitVec 16} {s : State} {a : Admitted} {r : Clock}
    (h : admission (.setClockRules v k tol coast lapse) s = some a)
    (hr : r = { s.clock with
      k := clampTo 1 4 k.toNat, tol := clampTo 1 8 tol.toNat, coastAfter := clampTo 30 600 coast.toNat,
      lapseAfter := clampTo 60 7200 lapse.toNat, slew := limitSlew (clampTo 1 8 tol.toNat) s.clock.slew }) :
    exec (.setClockRules v k tol coast lapse) s = answered v (.setClockRules v k tol coast lapse) a
      (done (num1 r.k ++ num1 r.tol ++ num2 r.coastAfter ++ num2 r.lapseAfter)) { a.state with clock := r } := by
  rw [← admission_state_clock h] at hr
  exact request_answered h (setClockRulesBody_eq _ _ _ _ _ _ hr)

theorem exec_setChainRules {v : Via} {retry fault probe : Byte} {s : State} {a : Admitted}
    (h : admission (.setChainRules v retry fault probe) s = some a) :
    exec (.setChainRules v retry fault probe) s = answered v (.setChainRules v retry fault probe) a
      (done (num1 (clampTo 0 7 retry.toNat) ++ num1 (clampTo 1 15 fault.toNat) ++ num1 (clampTo 5 60 probe.toNat)))
      { a.state with chain := { s.chain with
          retryLimit := clampTo 0 7 retry.toNat, faultAfter := clampTo 1 15 fault.toNat, probeEvery := clampTo 5 60 probe.toNat } } := by
  rw [← admission_state_chain h]
  exact request_answered h rfl

theorem exec_setCountdown {v : Via} {x : RawCountdown} {s u : State} {a : Admitted} (h : admission (.setCountdown v x) s = some a)
    (hu : u = { a.state with
      board := { s.board with countdown := readCountdown x },
      table := { s.table with records := s.table.records.map clearDerived } }) :
    exec (.setCountdown v x) s = answered v (.setCountdown v x) a (done (countdownBytes (readCountdown x)))
      (if s.board.mode = .unconfigured then u else evaluate false u) := by
  rw [← admission_state_board h, ← admission_state_table h] at hu
  rw [← admission_state_board h, hu]
  exact request_answered h rfl

/-- Settles O37, request by request. -/
theorem rulesSet : Obligations.RulesSet := by
  refine ⟨?retirement, ?windows, ?clock, ?chain, ?countdown⟩
  case retirement => rintro v m s a n h rfl; exact exec_setRetirement h
  case windows => rintro v gap total s a g w h rfl rfl; exact exec_setBatchWindows h
  case clock =>
    intro v k tol coast lapse s a r h hr
    refine exec_setClockRules h (hr.trans ?_)
    rw [limitSlew_eq_clamp]
    simp [clampTo]
  case chain =>
    rintro v retry fault probe s a r f e h rfl rfl rfl
    rw [← clampTo_zero 7]
    exact exec_setChainRules h
  case countdown =>
    intro v x s u a c h hc hu
    have hread : readCountdown x = c := by simp [hc, readCountdown, clampTo]
    subst hread
    exact exec_setCountdown h hu

end Sys2Proof.Machine

end

/-! The freshness supervisor set by a request: the fields it reads, and its refusals and its acceptance in R32's order. -/

section

namespace Sys2Proof.Machine

open Sys2Proof

/-! ### The fields of SET_SUPERVISOR -/

theorem readAction_eq_none {b : Byte} (h : 2 < b.toNat) : readAction b = none := by
  unfold readAction
  split
  case h_4 => rfl
  all_goals omega

theorem readHold_eq_none {b : Byte} (h : 1 < b.toNat) : readHold b = none := by
  unfold readHold
  split
  case h_3 => rfl
  all_goals omega

theorem readFlag_eq_none {b : Byte} (h : 1 < b.toNat) : readFlag b = none := by
  have h0 : b ≠ 0#8 := by rintro rfl; exact absurd h (by decide)
  have h1 : b ≠ 1#8 := by rintro rfl; exact absurd h (by decide)
  rw [readFlag, if_neg h0, if_neg h1]

@[simp] theorem readAction_supActionByte (act : SupAction) : readAction (supActionByte act) = some act := by
  cases act <;> rfl

@[simp] theorem readHold_holdByte (h : HoldBehaviour) : readHold (holdByte h) = some h := by
  cases h <;> rfl

/-- A flag byte in its range is clear or set. -/
theorem eq_zero_or_one_of_toNat_le_one {b : Byte} (h : b.toNat ≤ 1) : b = 0#8 ∨ b = 1#8 := by
  bv_omega

/-! ### SET_SUPERVISOR (R32) -/

theorem setSupervisorBody_wrongMode {period : BitVec 16} {action hold arm : Byte} {s : State} (h : s.sup.state ≠ .disarmed) :
    setSupervisorBody period action hold arm s = (s, .refused .wrongMode) := if_pos h

theorem setSupervisorBody_badField {period : BitVec 16} {action hold arm : Byte} {s : State} (hs : s.sup.state = .disarmed)
    (hbad : readAction action = none ∨ readHold hold = none ∨ readFlag arm = none) :
    setSupervisorBody period action hold arm s = (s, .refused .badField) := by
  rw [setSupervisorBody, if_neg (not_not_intro hs)]
  split
  case h_1 ha hh hm => simp [ha, hh, hm] at hbad
  case h_2 => rfl

theorem setSupervisorBody_accepted {period : BitVec 16} {arm : Byte} {act : SupAction} {h : HoldBehaviour} {s : State} {p : Nat}
    (hs : s.sup.state = .disarmed) (harm : arm.toNat ≤ 1) (hp : p = clampTo 10 900 period.toNat) :
    setSupervisorBody period (supActionByte act) (holdByte h) arm s =
      ({ s with sup := { state := if arm = 1#8 then .armed else .disarmed, period := p, action := act, hold := h,
                         remaining := if arm = 1#8 then p else 0 } },
        done ([arm] ++ num2 p ++ [supActionByte act, holdByte h])) := by
  subst hp
  rw [setSupervisorBody, if_neg (not_not_intro hs), readAction_supActionByte, readHold_holdByte]
  obtain rfl | rfl := eq_zero_or_one_of_toNat_le_one harm
  · rfl
  · rfl

/-- Settles O41, by R32's order: the mode first, then the three fields, then the settings stored. -/
theorem supervisorSet : Obligations.SupervisorSet := by
  intro v period action hold arm s a hadm
  rw [← admission_state_sup hadm]
  refine ⟨fun hs => ?wrongMode, fun hs hbad => ?badField, ?accepted⟩
  case wrongMode => exact request_answered hadm (setSupervisorBody_wrongMode hs)
  case badField =>
    have hnone : readAction action = none ∨ readHold hold = none ∨ readFlag arm = none :=
      hbad.imp readAction_eq_none (Or.imp readHold_eq_none readFlag_eq_none)
    exact request_answered hadm (setSupervisorBody_badField hs hnone)
  case accepted =>
    rintro act h p hs rfl rfl harm hp
    exact request_answered hadm (setSupervisorBody_accepted hs harm hp)

end Sys2Proof.Machine

end

/-! The countdown evaluation: the time form of Table 5-2 as a function of its own, the evaluation of a record by that form, and the
rise and fall of the shown minutes (R74 to R77). -/

section

namespace Sys2Proof.Machine

open Sys2Proof

/-! ### A form other than MINUTES (R77) -/

@[simp] theorem setForm_dep (f : TimeForm) (r : Live) : (setForm f r).dep = r.dep := rfl
@[simp] theorem setForm_form (f : TimeForm) (r : Live) : (setForm f r).form = f := rfl
@[simp] theorem setForm_shown (f : TimeForm) (r : Live) : (setForm f r).shown = none := rfl
@[simp] theorem setForm_rise (f : TimeForm) (r : Live) : (setForm f r).rise = 0 := rfl

/-! ### MINUTES form (R76): the minutes given are shown at once, or the old ones stand -/

theorem setMinutes_absent {c : EvalContext} {m : Nat} {r : Live} (h : r.shown = none) :
    setMinutes c m r = { r with form := .minutes, shown := some m, rise := 0 } := by
  simp only [setMinutes, h]

theorem setMinutes_fall {c : EvalContext} {m old : Nat} {r : Live} (h : r.shown = some old) (hm : m ≤ old) :
    setMinutes c m r = { r with form := .minutes, shown := some m, rise := 0 } := by
  simp only [setMinutes, h, if_pos hm]

theorem setMinutes_demand {c : EvalContext} {m old : Nat} {r : Live} (h : r.shown = some old) (hm : old < m) (ht : c.tick = false) :
    setMinutes c m r = { r with form := .minutes } := by
  simp only [setMinutes, h, if_neg (Nat.not_le.mpr hm), if_pos ht]

/-- A tick evaluation that finds a greater value: confirmed at the RISE_CONFIRM-th, counted before it. -/
theorem setMinutes_tick {c : EvalContext} {m old : Nat} {r : Live} (h : r.shown = some old) (hm : old < m) (ht : c.tick = true) :
    setMinutes c m r =
      if c.settings.rise ≤ r.rise + 1 then { r with form := .minutes, shown := some m, rise := 0 }
      else { r with form := .minutes, rise := r.rise + 1 } := by
  simp only [setMinutes, h, if_neg (Nat.not_le.mpr hm), ht, Bool.true_eq_false, if_false]

/-- What MINUTES form can do to a record: it keeps all but the form, the shown minutes and the rise count. -/
theorem setMinutes_eq_record (c : EvalContext) (m : Nat) (r : Live) :
    ∃ shown rise, setMinutes c m r = { r with form := .minutes, shown := shown, rise := rise } := by
  cases hs : r.shown with
  | none => exact ⟨_, _, setMinutes_absent hs⟩
  | some old =>
    obtain hfall | hrise := le_or_gt m old
    · exact ⟨_, _, setMinutes_fall hs hfall⟩
    cases ht : c.tick with
    | false => exact ⟨_, _, setMinutes_demand hs hrise ht⟩
    | true =>
      rw [setMinutes_tick hs hrise ht]
      split
      · exact ⟨_, _, rfl⟩
      · exact ⟨_, _, rfl⟩

@[simp] theorem setMinutes_dep (c : EvalContext) (m : Nat) (r : Live) : (setMinutes c m r).dep = r.dep := by
  obtain ⟨_, _, h⟩ := setMinutes_eq_record c m r
  rw [h]

@[simp] theorem setMinutes_form (c : EvalContext) (m : Nat) (r : Live) : (setMinutes c m r).form = .minutes := by
  obtain ⟨_, _, h⟩ := setMinutes_eq_record c m r
  rw [h]

/-! ### The form of Table 5-2 -/

/-- The minutes of a record by its remaining time (R75 step 2). -/
def minutesLeft (c : EvalContext) (r : Live) : Nat := max 1 ((effective r.dep - c.n + c.settings.bias) / 60)

/-- The time form of the first case of Table 5-2 whose condition holds (R74, R75). `evalRecord_eq` ties it to the evaluation. -/
def timeForm (c : EvalContext) (r : Live) : TimeForm :=
  if r.dep.status = .cancelled ∨ r.dep.status = .held then .status
  else if c.blank = true then .empty
  else if c.allowed = false then (if r.dep.status = .delayed then .status else .clock)
  else if r.dep.status = .delayed ∧ r.dep.predicted = none then .status
  else if (effective r.dep : Int) - c.n ≤ c.settings.due then .due
  else if c.settings.maxMin < minutesLeft c r then .clock
  else .minutes

/-- A record given the form `f`, with the minutes of its remaining time where that form is MINUTES. -/
def giveForm (c : EvalContext) (r : Live) : TimeForm → Live
  | .minutes => setMinutes c (minutesLeft c r) r
  | f => setForm f r

theorem giveForm_of_ne_minutes {c : EvalContext} {r : Live} {f : TimeForm} (h : f ≠ .minutes) : giveForm c r f = setForm f r := by
  cases f with
  | minutes => exact absurd rfl h
  | due | clock | status | empty => rfl

@[simp] theorem giveForm_dep (c : EvalContext) (r : Live) (f : TimeForm) : (giveForm c r f).dep = r.dep := by
  cases f with
  | minutes => exact setMinutes_dep c _ r
  | due | clock | status | empty => exact setForm_dep _ r

@[simp] theorem giveForm_form (c : EvalContext) (r : Live) (f : TimeForm) : (giveForm c r f).form = f := by
  cases f with
  | minutes => exact setMinutes_form c _ r
  | due | clock | status | empty => exact setForm_form _ r

/-- The model takes the minutes of E − N as an integer cut off at 0, which is the difference of natural numbers. -/
theorem minutesOf_toNat (c : EvalContext) (r : Live) :
    minutesOf c.settings.bias ((effective r.dep : Int) - c.n).toNat = minutesLeft c r := by
  rw [Int.toNat_sub]
  rfl

theorem evalRemaining_eq (c : EvalContext) (r : Live) :
    evalRemaining c r = giveForm c r
      (if (effective r.dep : Int) - c.n ≤ c.settings.due then .due
       else if c.settings.maxMin < minutesLeft c r then .clock else .minutes) := by
  simp only [evalRemaining, minutesOf_toNat]
  split
  · rfl
  · split
    · rfl
    · rfl

/-- The evaluation of a record gives it the form of Table 5-2 (R74). -/
theorem evalRecord_eq (c : EvalContext) (r : Live) : evalRecord c r = giveForm c r (timeForm c r) := by
  unfold evalRecord timeForm
  split
  · rfl
  split
  · rfl
  split
  · split
    · rfl
    · rfl
  split
  · rfl
  · exact evalRemaining_eq c r

theorem evalRecord_of_ne_minutes {c : EvalContext} {r : Live} (h : timeForm c r ≠ .minutes) :
    evalRecord c r = setForm (timeForm c r) r := by
  rw [evalRecord_eq, giveForm_of_ne_minutes h]

theorem evalRecord_of_minutes {c : EvalContext} {r : Live} (h : timeForm c r = .minutes) :
    evalRecord c r = setMinutes c (minutesLeft c r) r := by
  rw [evalRecord_eq, h, giveForm]

/-! ### The table (R73) -/

theorem blankTimes_eq (p : Supervisor) : blankTimes p = decide (p.state = .expired ∧ p.action = .blankTimes) := by
  rw [blankTimes, beq_eq_decide, beq_eq_decide, Bool.decide_and]

theorem evalContext_eq (tick : Bool) (s : State) :
    evalContext tick s =
      { tick := tick, n := s.clock.value / 16, allowed := s.board.allowed,
        blank := decide (s.sup.state = .expired ∧ s.sup.action = .blankTimes), settings := s.board.countdown } := by
  rw [evalContext, blankTimes_eq, seconds]

/-- Settles O16, by the form of Table 5-2 that the evaluation gives a record and, in MINUTES form, by the old and the new minutes. -/
theorem countdownEvaluation : Obligations.CountdownEvaluation := by
  refine ⟨fun c r => ⟨timeForm c r, rfl, ?keptFields, ?form, ?otherForm, ?minutes⟩, ?table⟩
  case keptFields => rw [evalRecord_eq, giveForm_dep]
  case form => rw [evalRecord_eq, giveForm_form]
  case otherForm =>
    intro hf
    rw [evalRecord_of_ne_minutes hf]
    exact ⟨setForm_shown _ r, setForm_rise _ r⟩
  case minutes =>
    rintro hf m rfl
    rw [evalRecord_of_minutes hf, minutesLeft]
    refine ⟨fun hs => ?absent, fun old hs hm => ?fall, fun old hs hm ht hc => ?confirmed, fun old hs hm ht hc => ?counted,
      fun old hs hm ht => ?demand⟩
    case absent => rw [setMinutes_absent hs]; exact ⟨rfl, rfl⟩
    case fall => rw [setMinutes_fall hs hm]; exact ⟨rfl, rfl⟩
    case confirmed => rw [setMinutes_tick hs hm ht, if_pos hc]; exact ⟨rfl, rfl⟩
    case counted => rw [setMinutes_tick hs hm ht, if_neg (Nat.not_le.mpr hc)]; exact ⟨hs, rfl⟩
    case demand => rw [setMinutes_demand hs hm ht]; exact ⟨hs, rfl⟩
  case table =>
    intro tick s
    rw [evaluate, evalContext_eq]

end Sys2Proof.Machine

end

/-! The Phrase Store: the ordered store, its cells, and the two requests that change it (R102 to R104). -/

section

namespace Sys2Proof.Machine

open Sys2Proof

/-! ### The phrase of an id -/

theorem phraseIdOk_iff (id : BitVec 16) : phraseIdOk id.toNat = true ↔ id ≠ 0#16 ∧ id.toNat ≤ 1023 := by
  rw [phraseIdOk, decide_eq_true_iff]
  bv_omega

/-- No phrase of an id is held just where removing that id removes nothing. -/
theorem findPhrase_eq_none_iff {id : Nat} {ps : List Phrase} : findPhrase id ps = none ↔ ps.filter (fun p => p.id ≠ id) = ps := by
  simp [findPhrase]

theorem dropPhrase_eq_filter (id : Nat) (ps : List Phrase) : dropPhrase id ps = ps.filter fun p => p.id ≠ id :=
  List.filter_congr fun _ _ => by rw [bne, beq_eq_decide, ← decide_not]

theorem findPhrase_dropPhrase (id : Nat) (ps : List Phrase) : findPhrase id (dropPhrase id ps) = none := by
  simp [findPhrase, dropPhrase]

/-- R106: a missing phrase draws no glyph. -/
theorem phraseCodes_of_missing {id : Nat} {ps : List Phrase} (lang : Nat) (h : findPhrase id ps = none) : phraseCodes ps lang id = [] := by
  rw [phraseCodes, h]

/-! ### Storing in ascending id (R103) -/

/-- In a store in order the phrases after the first have other ids. -/
theorem id_ne_of_ordered {q : Phrase} {qs : List Phrase} (h : (q :: qs).Pairwise fun a b => a.id < b.id) : ∀ p ∈ qs, p.id ≠ q.id :=
  fun _ hp => Nat.ne_of_gt (List.rel_of_pairwise_cons h hp)

/-- Below the first id of a store in order, no phrase has that id. -/
theorem id_ne_of_lt_ordered {id : Nat} {q : Phrase} {qs : List Phrase} (h : (q :: qs).Pairwise fun a b => a.id < b.id)
    (hlt : id < q.id) : ∀ p ∈ q :: qs, p.id ≠ id := by
  intro p hp
  rcases List.mem_cons.mp hp with rfl | hp
  · exact Nat.ne_of_gt hlt
  · exact Nat.ne_of_gt (hlt.trans (List.rel_of_pairwise_cons h hp))

theorem filter_id_ne_of_absent {id : Nat} {ps : List Phrase} (h : ∀ p ∈ ps, p.id ≠ id) : ps.filter (fun p => p.id ≠ id) = ps :=
  List.filter_eq_self.mpr fun p hp => decide_eq_true (h p hp)

theorem putPhrase_perm {p : Phrase} {ps : List Phrase} (h : ps.Pairwise fun a b => a.id < b.id) :
    (putPhrase p ps).Perm (p :: ps.filter fun q => q.id ≠ p.id) := by
  induction ps with
  | nil => exact List.Perm.refl _
  | cons q qs ih =>
    unfold putPhrase
    split
    case isTrue hlt => rw [filter_id_ne_of_absent (id_ne_of_lt_ordered h hlt)]
    split
    case isTrue heq =>
      rw [heq, List.filter_cons_of_neg (by simp), filter_id_ne_of_absent (id_ne_of_ordered h)]
    case isFalse hne =>
      rw [List.filter_cons_of_pos (by simpa using Ne.symm hne)]
      exact ((ih h.of_cons).cons q).trans (List.Perm.swap p q _)

theorem putPhrase_ordered {p : Phrase} {ps : List Phrase} (h : ps.Pairwise fun a b => a.id < b.id) :
    (putPhrase p ps).Pairwise fun a b => a.id < b.id := by
  induction ps with
  | nil => exact List.pairwise_singleton _ _
  | cons q qs ih =>
    obtain ⟨hq, hqs⟩ := List.pairwise_cons.mp h
    unfold putPhrase
    split
    case isTrue hlt =>
      refine List.pairwise_cons.mpr ⟨fun x hx => ?_, h⟩
      rcases List.mem_cons.mp hx with rfl | hx
      · exact hlt
      · exact hlt.trans (hq x hx)
    split
    case isTrue heq => exact List.pairwise_cons.mpr ⟨fun x hx => heq ▸ hq x hx, hqs⟩
    case isFalse hnlt hne =>
      refine List.pairwise_cons.mpr ⟨fun x hx => ?_, ih hqs⟩
      rcases List.mem_cons.mp ((putPhrase_perm hqs).mem_iff.mp hx) with rfl | hx
      · exact Nat.lt_of_le_of_ne (Nat.not_lt.mp hnlt) (Ne.symm hne)
      · exact hq x (List.mem_of_mem_filter hx)

/-! ### The cells used (R102) -/

theorem cellsUsed_cons (p : Phrase) (ps : List Phrase) : cellsUsed (p :: ps) = phraseCells p + cellsUsed ps := rfl

theorem cellsUsed_perm {ps qs : List Phrase} (h : ps.Perm qs) : cellsUsed ps = cellsUsed qs := (h.map phraseCells).sum_eq

/-- The cells of the phrase of an id are those of all phrases of that id, of which a store in order holds at most one. -/
theorem cellsOf_eq_cellsUsed {id : Nat} {ps : List Phrase} (h : ps.Pairwise fun a b => a.id < b.id) :
    cellsOf id ps = cellsUsed (ps.filter fun p => p.id = id) := by
  induction ps with
  | nil => rfl
  | cons q qs ih =>
    by_cases hq : q.id = id
    · subst hq
      have hnone : qs.filter (fun p => p.id = q.id) = [] :=
        List.filter_eq_nil_iff.mpr fun p hp => by simpa using id_ne_of_ordered h p hp
      rw [List.filter_cons_of_pos (by simp), hnone]
      simp [cellsOf, findPhrase, cellsUsed]
    · rw [List.filter_cons_of_neg (by simpa using hq), ← ih h.of_cons]
      simp [cellsOf, findPhrase, hq]

/-- The cells used, apart by id: those of the other phrases and those of the id. -/
theorem cellsUsed_filter_add (id : Nat) (ps : List Phrase) :
    cellsUsed (ps.filter fun p => p.id ≠ id) + cellsUsed (ps.filter fun p => p.id = id) = cellsUsed ps := by
  have hperm := cellsUsed_perm (List.filter_append_perm (fun p => decide (p.id = id)) ps)
  simpa [cellsUsed, Nat.add_comm] using hperm

/-- R103: a phrase stored adds its cells, and those of the phrase it replaces go. -/
theorem cellsUsed_putPhrase {p : Phrase} {ps : List Phrase} (h : ps.Pairwise fun a b => a.id < b.id) :
    cellsUsed (putPhrase p ps) = cellsUsed ps + phraseCells p - cellsOf p.id ps := by
  rw [cellsUsed_perm (putPhrase_perm h), cellsUsed_cons, cellsOf_eq_cellsUsed h, ← cellsUsed_filter_add p.id ps]
  omega

/-! ### SET_PHRASE (R103) -/

/-- The first check holds just where no item that it names fails. -/
theorem phraseOk_iff (id : BitVec 16) (x y z : List Byte) :
    phraseOk id.toNat x y z = true ↔ id ≠ 0#16 ∧ id.toNat ≤ 1023 ∧ x.length ≤ 64 ∧ y.length ≤ 64 ∧ z.length ≤ 64
      ∧ x.length + y.length + z.length ≠ 0 := by
  rw [phraseOk, Bool.and_eq_true, phraseIdOk_iff, decide_eq_true_iff, Nat.pos_iff_ne_zero, and_assoc]
  rfl

section

variable {id : Nat} {x y z : List Byte} {s : State}

theorem setPhraseBody_badField (h : phraseOk id x y z = false) : setPhraseBody id x y z s = (s, .refused .badField) := if_pos h

theorem setPhraseBody_tableFull (h : phraseOk id x y z = true) (hnew : findPhrase id s.phrases = none)
    (hfull : maxPhrases ≤ s.phrases.length) : setPhraseBody id x y z s = (s, .refused .tableFull) := by
  rw [setPhraseBody, if_neg (by simp [h]), if_pos ⟨hnew, hfull⟩]

theorem setPhraseBody_noSpace (h : phraseOk id x y z = true) (hroom : ¬ (findPhrase id s.phrases = none ∧ maxPhrases ≤ s.phrases.length))
    (hcells : maxCells < cellsUsed s.phrases + phraseCells ⟨id, x, y, z⟩ - cellsOf id s.phrases) :
    setPhraseBody id x y z s = (s, .refused .noSpace) := by
  rw [setPhraseBody, if_neg (by simp [h]), if_neg hroom, if_pos hcells]

theorem setPhraseBody_stored (h : phraseOk id x y z = true) (hroom : ¬ (findPhrase id s.phrases = none ∧ maxPhrases ≤ s.phrases.length))
    (hcells : cellsUsed s.phrases + phraseCells ⟨id, x, y, z⟩ - cellsOf id s.phrases ≤ maxCells) :
    setPhraseBody id x y z s =
      ({ s with phrases := putPhrase ⟨id, x, y, z⟩ s.phrases }, done (phraseFields (putPhrase ⟨id, x, y, z⟩ s.phrases))) := by
  rw [setPhraseBody, if_neg (by simp [h]), if_neg hroom, if_neg (Nat.not_lt.mpr hcells)]

/-! ### DROP_PHRASE (R104) -/

theorem dropPhraseBody_badField (h : phraseIdOk id = false) : dropPhraseBody id s = (s, .refused .badField) := if_pos h

theorem dropPhraseBody_notFound (h : phraseIdOk id = true) (hnone : findPhrase id s.phrases = none) :
    dropPhraseBody id s = (s, .refused .notFound) := by
  rw [dropPhraseBody, if_neg (by simp [h]), if_pos hnone]

theorem dropPhraseBody_dropped (h : phraseIdOk id = true) (hheld : findPhrase id s.phrases ≠ none) :
    dropPhraseBody id s = ({ s with phrases := dropPhrase id s.phrases }, done (phraseFields (dropPhrase id s.phrases))) := by
  rw [dropPhraseBody, if_neg (by simp [h]), if_neg hheld]

end

/-- Settles O47, by R103's checks in order and, for a phrase dropped, by R106's missing phrase. -/
theorem phrasesSetAndDropped : Obligations.PhrasesSetAndDropped := by
  intro cells hcells
  obtain rfl : cells = cellsUsed := funext hcells
  refine ⟨?set, ?drop⟩
  case set =>
    rintro v id x y z s a c others n o rfl hadm hord rfl rfl rfl
    rw [← admission_state_phrases hadm] at hord ⊢
    rw [← cellsOf_eq_cellsUsed hord]
    refine ⟨fun hbad => ?badField, fun hid0 hid hx hy hz hn => ?checked⟩
    case badField =>
      refine request_answered hadm (setPhraseBody_badField (Bool.eq_false_iff.mpr fun hok => ?_))
      obtain ⟨hid0, hid, hx, hy, hz, hn⟩ := (phraseOk_iff id x y z).mp hok
      exact hbad.elim hid0 fun hbad => by omega
    case checked =>
      have hok : phraseOk id.toNat x y z = true := (phraseOk_iff id x y z).mpr ⟨hid0, hid, hx, hy, hz, hn⟩
      refine ⟨fun hnew hfull => request_answered hadm (setPhraseBody_tableFull hok (findPhrase_eq_none_iff.mpr hnew) hfull),
        fun hroom => ?_⟩
      have hroom' : ¬ (findPhrase id.toNat a.state.phrases = none ∧ maxPhrases ≤ a.state.phrases.length) :=
        fun ⟨hnew, hfull⟩ => hroom.elim (fun hheld => hheld (findPhrase_eq_none_iff.mp hnew)) (Nat.not_lt.mpr hfull)
      exact ⟨fun hspace => request_answered hadm (setPhraseBody_noSpace hok hroom' hspace),
        fun hspace => ⟨putPhrase ⟨id.toNat, x, y, z⟩ a.state.phrases, putPhrase_perm hord, putPhrase_ordered hord,
          cellsUsed_putPhrase hord, request_answered hadm (setPhraseBody_stored hok hroom' hspace)⟩⟩
  case drop =>
    rintro v id s a ps hadm rfl
    rw [← admission_state_phrases hadm]
    refine ⟨fun hbad => ?badField, fun hid0 hid habsent => ?notFound, fun hid0 hid hheld => ?dropped⟩
    case badField =>
      refine request_answered hadm (dropPhraseBody_badField (Bool.eq_false_iff.mpr fun hok => ?_))
      obtain ⟨hid0, hid⟩ := (phraseIdOk_iff id).mp hok
      exact hbad.elim hid0 (Nat.not_lt.mpr hid)
    case notFound =>
      exact request_answered hadm
        (dropPhraseBody_notFound ((phraseIdOk_iff id).mpr ⟨hid0, hid⟩) (findPhrase_eq_none_iff.mpr habsent))
    case dropped =>
      rw [← dropPhrase_eq_filter]
      exact ⟨request_answered hadm
          (dropPhraseBody_dropped ((phraseIdOk_iff id).mpr ⟨hid0, hid⟩) (mt findPhrase_eq_none_iff.mp hheld)),
        fun lang => phraseCodes_of_missing lang (findPhrase_dropPhrase id.toNat a.state.phrases)⟩

end Sys2Proof.Machine

end

/-! The light curve: the target read along the breakpoints, and the interpolation between two of them (R148). -/

section

namespace Sys2Proof.Machine

open Sys2Proof

/-! ### Along the curve -/

section

variable {c : Nat} {p q : Point} {qs : List Point}

theorem target_of_le_head (h : c ≤ p.c) : target c (p :: qs) = p.b := by
  cases qs with
  | nil => rfl
  | cons q qs => exact if_pos h

theorem target_of_between (hp : p.c < c) (hq : c < q.c) : target c (p :: q :: qs) = interpolate p q c := by
  rw [target, targetFrom, if_neg (Nat.not_le.mpr hp), if_pos hq]

/-- From the second breakpoint's C on the first plays no part. -/
theorem target_of_second_le (hpq : p.c < q.c) (hq : q.c ≤ c) : target c (p :: q :: qs) = target c (q :: qs) := by
  rw [target, targetFrom, if_neg (Nat.not_le.mpr (hpq.trans_le hq)), if_neg (Nat.not_lt.mpr hq), target]

end

/-- A count at or beyond a breakpoint's C is read on the curve from that breakpoint on. -/
theorem target_append {c : Nat} {p : Point} {before after : List Point}
    (hcurve : (before ++ p :: after).Pairwise fun p q => p.c < q.c) (hp : p.c ≤ c) :
    target c (before ++ p :: after) = target c (p :: after) := by
  induction before with
  | nil => rfl
  | cons r rs ih =>
    obtain ⟨hr, hrest⟩ := List.pairwise_cons.mp hcurve
    rw [← ih hrest]
    cases rs with
    | nil => exact target_of_second_le (hr p List.mem_cons_self) hp
    | cons q qs =>
      have hqp : q.c < p.c := List.rel_of_pairwise_cons hrest (List.mem_append_right qs List.mem_cons_self)
      exact target_of_second_le (hr q List.mem_cons_self) (hqp.le.trans hp)

/-! ### Between two breakpoints -/

/-- A share of a rise, truncated, is no more than the rise. -/
theorem tdiv_share_of_nonneg {k x d : Int} (hk : 0 ≤ k) (hx : 0 ≤ x) (hxd : x < d) :
    0 ≤ (k * x).tdiv d ∧ (k * x).tdiv d ≤ k := by
  have hkx : 0 ≤ k * x := mul_nonneg hk hx
  have hd : 0 < d := hx.trans_lt hxd
  refine ⟨Int.tdiv_nonneg hkx hd.le, ?_⟩
  rw [Int.tdiv_eq_ediv_of_nonneg hkx]
  exact Int.ediv_le_of_le_mul hd (mul_le_mul_of_nonneg_left hxd.le hk)

/-- A share of a change of either sign, truncated toward zero, lies between no change and the whole change. -/
theorem tdiv_share_mem (k : Int) {x d : Int} (hx : 0 ≤ x) (hxd : x < d) :
    min 0 k ≤ (k * x).tdiv d ∧ (k * x).tdiv d ≤ max 0 k := by
  obtain hk | hk := le_total 0 k
  · have := tdiv_share_of_nonneg hk hx hxd
    omega
  · have := tdiv_share_of_nonneg (neg_nonneg.mpr hk) hx hxd
    rw [neg_mul, Int.neg_tdiv] at this
    omega

section

variable {c : Nat} {p q : Point}

/-- The value between two breakpoints, as R148 writes it, is never negative: the model's cut-off at 0 changes nothing. -/
theorem interpolate_eq (hp : p.c ≤ c) (hq : c < q.c) :
    (interpolate p q c : Int) = p.b + (((q.b : Int) - p.b) * ((c : Int) - p.c)).tdiv ((q.c : Int) - p.c) := by
  have := tdiv_share_mem ((q.b : Int) - p.b) (x := (c : Int) - p.c) (d := (q.c : Int) - p.c) (by omega) (by omega)
  exact Int.toNat_of_nonneg (by omega)

theorem interpolate_mem (hp : p.c ≤ c) (hq : c < q.c) :
    min p.b q.b ≤ interpolate p q c ∧ interpolate p q c ≤ max p.b q.b := by
  have hshare := tdiv_share_mem ((q.b : Int) - p.b) (x := (c : Int) - p.c) (d := (q.c : Int) - p.c) (by omega) (by omega)
  have := interpolate_eq hp hq
  omega

/-- At the C of a breakpoint the interpolation from it gives its own B. -/
theorem interpolate_at_left (p q : Point) : interpolate p q p.c = p.b := by
  simp [interpolate]

theorem target_eq_interpolate {qs : List Point} (hp : p.c ≤ c) (hq : c < q.c) : target c (p :: q :: qs) = interpolate p q c := by
  obtain rfl | hlt := hp.eq_or_lt
  · rw [target_of_le_head le_rfl, interpolate_at_left]
  · exact target_of_between hlt hq

end

/-- Settles O23, by reading the curve from the last breakpoint at or below the count. -/
theorem curveTarget : Obligations.CurveTarget := by
  intro count curve _ hcurve
  refine ⟨fun p hhead hle => ?first, fun p hlast hle => ?last, ?between⟩
  case first =>
    obtain ⟨ps, rfl⟩ := List.head?_eq_some_iff.mp hhead
    exact target_of_le_head hle
  case last =>
    obtain ⟨ps, rfl⟩ := List.getLast?_eq_some_iff.mp hlast
    rw [target_append hcurve hle]
    rfl
  case between =>
    rintro before p q after rfl hp hq
    rw [target_append hcurve hp, target_eq_interpolate hp hq]
    exact ⟨interpolate_eq hp hq, interpolate_mem hp hq⟩

end Sys2Proof.Machine

end

/-! The Light Meter at a gate window's end: the sensor state and its notice, and the light as R149 leaves it (R146, R147, R149, R152). -/

section

namespace Sys2Proof.Machine

open Sys2Proof

/-! ### The notice of a sensor change (R147) -/

section

variable {old new : SensorState} {applied count : Nat}

theorem sensorNotice_self (st : SensorState) (applied count : Nat) : sensorNotice st st applied count = [] := if_pos rfl

theorem sensorNotice_saturated (hne : new ≠ old) (h : new = .saturated) :
    sensorNotice old new applied count = [(.lightSaturated, applied)] := by
  subst h
  exact if_neg hne.symm

theorem sensorNotice_silent (hne : new ≠ old) (h : new = .silent) : sensorNotice old new applied count = [(.lightSilent, applied)] := by
  subst h
  exact if_neg hne.symm

theorem sensorNotice_ok (hne : new ≠ old) (h : new = .ok) : sensorNotice old new applied count = [(.lightOk, count)] := by
  subst h
  exact if_neg hne.symm

end

/-! ### One step of the meter (R149) -/

section

variable {count : Nat} {l : Light}

theorem meterStep_not_ok (h : l.sensor ≠ .ok) : meterStep count l = l := if_pos h

theorem meterStep_fixed (h : l.sensor = .ok) (hm : l.mode = .fixed) : meterStep count l = { l with target := target count l.curve } := by
  simp only [meterStep, h, hm, ne_eq, not_true_eq_false, if_false]

theorem meterStep_auto (h : l.sensor = .ok) (hm : l.mode = .auto) :
    meterStep count l =
      { l with
        target := target count l.curve, goal := goalAfter l.hyst (target count l.curve) l.goal,
        applied := clampTo l.bmin l.bmax (slewToward l.slew (goalAfter l.hyst (target count l.curve) l.goal) l.applied) } := by
  simp only [meterStep, h, hm, ne_eq, not_true_eq_false, if_false]

/-- A step of the meter moves the target, the goal and the applied brightness alone. -/
theorem meterStep_frame (count : Nat) (l : Light) :
    meterStep count l =
      { l with
        target := (meterStep count l).target, goal := (meterStep count l).goal, applied := (meterStep count l).applied } := by
  by_cases h : l.sensor = .ok
  · cases hm : l.mode with
    | fixed => rw [meterStep_fixed h hm, ← hm]
    | auto => rw [meterStep_auto h hm, ← hm]
  · rw [meterStep_not_ok h]

theorem meterStep_target (count : Nat) (l : Light) :
    (meterStep count l).target = if l.sensor = .ok then target count l.curve else l.target := by
  by_cases h : l.sensor = .ok
  · rw [if_pos h]
    cases hm : l.mode with
    | fixed => rw [meterStep_fixed h hm]
    | auto => rw [meterStep_auto h hm]
  · rw [if_neg h, meterStep_not_ok h]

theorem meterStep_kept (h : l.sensor ≠ .ok ∨ l.mode = .fixed) :
    (meterStep count l).goal = l.goal ∧ (meterStep count l).applied = l.applied := by
  by_cases hok : l.sensor = .ok
  · rw [meterStep_fixed hok (h.resolve_left (not_not_intro hok))]
    exact ⟨rfl, rfl⟩
  · rw [meterStep_not_ok hok]
    exact ⟨rfl, rfl⟩

theorem meterStep_followed (h : l.sensor = .ok) (hm : l.mode = .auto) :
    (meterStep count l).goal = goalAfter l.hyst (meterStep count l).target l.goal
      ∧ (meterStep count l).applied = clampTo l.bmin l.bmax (slewToward l.slew (meterStep count l).goal l.applied) := by
  rw [meterStep_auto h hm]
  exact ⟨rfl, rfl⟩

end

/-! ### The end of a gate window -/

/-- The light with the window's count taken and the sensor judged by it, before the meter's step (R146, R147). -/
def windowTaken (l : Light) : Light :=
  { l with
    gate := 0, last := l.gate, zeroRun := zeroRunAfter l.gate l.zeroRun,
    sensor := sensorAfter l.gate (zeroRunAfter l.gate l.zeroRun) l.sensor }

/-- The light that a window end leaves; `windowEnd_eq` ties it to the model. -/
def windowLight (l : Light) : Light := meterStep l.gate (windowTaken l)

/-- The notices that a window end leaves; `windowEnd_eq` ties them to the model. -/
def windowNotices (s : State) : Notices :=
  (offerAll (sensorNotice s.light.sensor (windowTaken s.light).sensor s.light.applied s.light.gate)
    (setLight (windowLight s.light) s)).notices

/-- A window end changes the light and the notices, and a changed applied brightness is handed on (R152). -/
theorem windowEnd_eq (s : State) :
    windowEnd s = handBrightness s.light.applied { s with light := windowLight s.light, notices := windowNotices s } :=
  congrArg (handBrightness s.light.applied) (offerAll_frame _ _)

theorem windowLight_frame (l : Light) :
    windowLight l =
      { windowTaken l with
        target := (windowLight l).target, goal := (windowLight l).goal, applied := (windowLight l).applied } :=
  meterStep_frame l.gate (windowTaken l)

theorem windowLight_sensor (l : Light) : (windowLight l).sensor = (windowTaken l).sensor := by rw [windowLight_frame]

section

variable {s : State}

theorem windowNotices_unchanged (h : (windowTaken s.light).sensor = s.light.sensor) : windowNotices s = s.notices := by
  rw [windowNotices, h, sensorNotice_self]
  rfl

theorem windowNotices_offered {k : NoticeKind} {arg : Nat}
    (h : sensorNotice s.light.sensor (windowTaken s.light).sensor s.light.applied s.light.gate = [(k, arg)]) :
    windowNotices s = offerTo s.notices k arg s.unit.uptime := by
  rw [windowNotices, h]
  rfl

end

/-- Settles O22, by the light and the notices that a window end leaves. -/
theorem lightWindow : Obligations.LightWindow := by
  intro s
  refine ⟨rfl, windowLight s.light, windowNotices s, _, rfl, congrArg _ (windowEnd_eq s), ?items⟩
  rw [windowLight_sensor]
  refine ⟨?gate, ?last, ?zeroRun, ?sensor, windowNotices_unchanged,
    fun hne h => windowNotices_offered (sensorNotice_saturated hne h), fun hne h => windowNotices_offered (sensorNotice_silent hne h),
    fun hne h => windowNotices_offered (sensorNotice_ok hne h), meterStep_target _ _, meterStep_kept, meterStep_followed, ?settings⟩
  case gate => rw [windowLight_frame]; rfl
  case last => rw [windowLight_frame]; rfl
  case zeroRun => rw [windowLight_frame]; rfl
  case sensor => rw [windowLight_frame]; rfl
  case settings =>
    rw [windowLight_frame]
    exact ⟨rfl, rfl, rfl, rfl, rfl, rfl, rfl⟩

end Sys2Proof.Machine

end

/-! The palette, the brightness settings and the light curve set by requests (R126, R150 to R152). -/

section

namespace Sys2Proof.Machine

open Sys2Proof

/-! ### SET_PALETTE (R126) -/

section

variable {pal es : List RGB} {first : Nat}

theorem replaceEntries_length (h : first + es.length ≤ pal.length) : (replaceEntries pal first es).length = pal.length := by
  simp only [replaceEntries, List.length_append, List.length_take, List.length_drop]
  omega

/-- A run of entries replaced: within the run the entries given, outside it those before. -/
theorem replaceEntries_getElem? (h : first + es.length ≤ pal.length) (i : Nat) :
    (replaceEntries pal first es)[i]? = if first ≤ i ∧ i < first + es.length then es[i - first]? else pal[i]? := by
  have htake : (pal.take first).length = first := List.length_take_of_le (by omega)
  rw [replaceEntries, List.append_assoc]
  obtain hbefore | hfrom := Nat.lt_or_ge i first
  · rw [if_neg (by omega), List.getElem?_append_left (by omega), List.getElem?_take_of_lt hbefore]
  rw [List.getElem?_append_right (by omega), htake]
  obtain hin | hafter := Nat.lt_or_ge i (first + es.length)
  · rw [if_pos ⟨hfrom, hin⟩, List.getElem?_append_left (by omega)]
  · rw [if_neg (by omega), List.getElem?_append_right (by omega), List.getElem?_drop]
    congr 1
    omega

/-- A palette that has the entries given within the run and the old ones outside it is the one that the run's replacement makes. -/
theorem eq_replaceEntries {pal' : List RGB} (h : first + es.length ≤ pal.length) (hlen : pal'.length = pal.length)
    (hget : ∀ i, i < pal.length → pal'[i]? = if first ≤ i ∧ i < first + es.length then es[i - first]? else pal[i]?) :
    pal' = replaceEntries pal first es := by
  refine List.ext_getElem? fun i => ?_
  obtain hi | hi := Nat.lt_or_ge i pal.length
  · rw [hget i hi, replaceEntries_getElem? h]
  · rw [List.getElem?_eq_none (hlen ▸ hi), List.getElem?_eq_none ((replaceEntries_length h).symm ▸ hi)]

end

section

variable {first : Byte} {es : List RGB} {s : State}

theorem setPaletteBody_badField (h : 15 < first.toNat ∨ es = [] ∨ 16 < first.toNat + es.length) :
    setPaletteBody first es s = (s, .refused .badField) := by
  refine if_pos ?_
  rw [← List.length_eq_zero_iff] at h
  omega

theorem setPaletteBody_replaced (hes : es ≠ []) (h : first.toNat + es.length ≤ 16) :
    setPaletteBody first es s =
      (settle (markPalettes { s with coder := { s.coder with palette := replaceEntries s.coder.palette first.toNat es } }), done []) := by
  refine if_neg ?_
  have := List.length_pos_iff.mpr hes
  omega

end

/-! ### SET_BRIGHTNESS (R150, R152) -/

theorem readBrightMode_eq_none {b : Byte} (h : 1 < b.toNat) : readBrightMode b = none := by
  unfold readBrightMode
  split
  case h_3 => rfl
  all_goals omega

@[simp] theorem readBrightMode_brightModeByte (m : BrightMode) : readBrightMode (brightModeByte m) = some m := by
  cases m <;> rfl

theorem clampTo_one_byte (b : Byte) : clampTo 1 255 b.toNat = max 1 b.toNat := by
  rw [clampTo, Nat.min_eq_right (by omega)]

/-- The light that R150 leaves, with its clamps written out. -/
theorem brightnessSet_eq (m : BrightMode) (x : RawBrightness) (l : Light) :
    brightnessSet m x l =
      { l with
        mode := m, fixed := x.fixed.toNat, hyst := min 32 x.hyst.toNat, slew := max 1 x.slew.toNat,
        bmin := min x.bmin.toNat x.bmax.toNat, bmax := x.bmax.toNat,
        applied := max (min x.bmin.toNat x.bmax.toNat) (min x.bmax.toNat
          (match m with | .fixed => x.fixed.toNat | .auto => l.applied)) } := by
  rw [← clampTo_zero 32, ← clampTo_one_byte]
  rfl

section

variable {x : RawBrightness} {s : State}

theorem setBrightnessBody_badField (h : 1 < x.mode.toNat) : setBrightnessBody x s = (s, .refused .badField) := by
  rw [setBrightnessBody, readBrightMode_eq_none h]

theorem setBrightnessBody_set {m : BrightMode} (hm : x.mode = brightModeByte m) :
    setBrightnessBody x s =
      (handBrightness s.light.applied (setLight (brightnessSet m x s.light) s), done (brightnessBytes (brightnessSet m x s.light))) := by
  rw [setBrightnessBody, hm, readBrightMode_brightModeByte]

/-- The reply carries the settings in force: the fixed brightness and the upper limit are those given. -/
theorem brightnessBytes_brightnessSet {m : BrightMode} (hm : x.mode = brightModeByte m) (l : Light) :
    brightnessBytes (brightnessSet m x l) =
      [x.mode, x.fixed, BitVec.ofNat 8 (brightnessSet m x l).hyst, BitVec.ofNat 8 (brightnessSet m x l).slew,
        BitVec.ofNat 8 (brightnessSet m x l).bmin, x.bmax, BitVec.ofNat 8 (brightnessSet m x l).applied] := by
  simp [brightnessBytes, num1, hm, brightnessSet]

end

/-! ### SET_LIGHT_CURVE (R151) -/

/-- The six breakpoints in the order of their fields. -/
def rawPoints (x : RawCurve) : List RawPoint := [x.q0, x.q1, x.q2, x.q3, x.q4, x.q5]

/-- Each C below the next is each C below all that follow. -/
theorem rawPoints_ascending_iff (x : RawCurve) :
    (rawPoints x).Pairwise (fun p q => p.c.toNat < q.c.toNat) ↔
      x.q0.c.toNat < x.q1.c.toNat ∧ x.q1.c.toNat < x.q2.c.toNat ∧ x.q2.c.toNat < x.q3.c.toNat ∧ x.q3.c.toNat < x.q4.c.toNat
        ∧ x.q4.c.toNat < x.q5.c.toNat := by
  simp only [rawPoints, List.pairwise_cons, List.mem_cons, List.not_mem_nil, or_false, forall_eq_or_imp,
    forall_eq, IsEmpty.forall_iff, implies_true, List.Pairwise.nil, and_self, and_true]
  omega

section

variable {x : RawCurve} {s : State}

theorem setLightCurveBody_stored (h : (rawPoints x).Pairwise fun p q => p.c.toNat < q.c.toNat) :
    setLightCurveBody x s =
      (setLight { s.light with curve := (rawPoints x).map fun p => { c := p.c.toNat, b := p.b.toNat } } s, done []) := by
  have hread : readCurve x = some ((rawPoints x).map fun p => { c := p.c.toNat, b := p.b.toNat }) :=
    if_pos ((rawPoints_ascending_iff x).mp h)
  rw [setLightCurveBody, hread]

theorem setLightCurveBody_badField (h : ¬ (rawPoints x).Pairwise fun p q => p.c.toNat < q.c.toNat) :
    setLightCurveBody x s = (s, .refused .badField) := by
  have hread : readCurve x = none := if_neg (mt (rawPoints_ascending_iff x).mpr h)
  rw [setLightCurveBody, hread]

end

/-- Settles O49, request by request: each refused, or stored and handed on. -/
theorem coloursAndBrightnessSet : Obligations.ColoursAndBrightnessSet := by
  refine ⟨fun v first es s a hadm => ?palette, fun v x s a hadm => ?brightness, ?curve⟩
  case palette =>
    rw [← admission_state_coder hadm, ← admission_state_board hadm]
    refine ⟨fun hbad => request_answered hadm (setPaletteBody_badField hbad), fun pal hes hrun hlen hpal hget => ?_⟩
    obtain rfl := eq_replaceEntries (hlen ▸ hrun) (hpal.trans hlen.symm) (hlen ▸ hget)
    exact request_answered hadm (setPaletteBody_replaced hes hrun)
  case brightness =>
    rw [← admission_state_light hadm]
    refine ⟨fun hbad => request_answered hadm (setBrightnessBody_badField hbad), fun m l hm hl => ?_⟩
    obtain rfl := hl.trans (brightnessSet_eq m x a.state.light).symm
    rw [← brightnessBytes_brightnessSet hm]
    exact request_answered hadm (setBrightnessBody_set hm)
  case curve =>
    rintro v x s a raws hadm rfl
    rw [← admission_state_light hadm]
    exact ⟨fun hasc => request_answered hadm (setLightCurveBody_stored hasc),
      fun hnot => request_answered hadm (setLightCurveBody_badField hnot)⟩

end Sys2Proof.Machine

end

/-! The steps of the part, sorted once: a request's body by its command, what an event leaves, and what a step can do. -/

section

namespace Sys2Proof.Machine

open Sys2Proof

/-! ### Requests and events -/

/-- What the owning rule of a request does, and its answer; a reading request leaves the state and answers its report. -/
def commandBody : Instr → State → State × Answer
  | .identify _, s => (s, reportIdentity s)
  | .status _, s => (s, reportStatus s)
  | .resetUnitAll _, s => resetAllBody s
  | .resetUnitTables _, s => resetTablesBody s
  | .enableNotices _ m, s => enableNoticesBody m s
  | .setGroups _ a b, s => setGroupsBody a b s
  | .setReplyMode _ m, s => setReplyModeBody m s
  | .timeMark _ d n x, s => timeMarkBody d.toNat n.toNat x.toNat s
  | .setClockRules _ k t c l, s => setClockRulesBody k.toNat t.toNat c.toNat l.toNat s
  | .readClock _, s => (s, reportClock s)
  | .batchOpen _ t m, s => batchOpenBody t m s
  | .putDeparture _ d, s => stageRequest ((readDepartureRecord d).map .put) s
  | .dropDeparture _ t, s => stageRequest (if t = 0#16 then none else some (.drop t.toNat)) s
  | .batchClose _ t, s => batchCloseBody t s
  | .setBatchWindows _ g w, s => setWindowsBody g w s
  | .setSupervisor _ p a h m, s => setSupervisorBody p a h m s
  | .readDeparture _ t, s => (s, reportDeparture t.toNat s)
  | .listDepartures _ n, s => (s, reportList n.toNat s)
  | .setRetirement _ m, s => setRetirementBody m.toNat s
  | .setBoard _ w h n, s => setBoardBody w.toNat h.toNat n.toNat s
  | .setPanel _ p, s => setPanelBody p s
  | .setMode _ m, s => setModeBody m s
  | .setPage _ i d l f ls, s => setPageBody i d l f ls s
  | .queryLine _ i, s => (s, reportLine i.toNat s)
  | .setCountdown _ c, s => setCountdownBody c s
  | .pushOverlay _ o, s => pushOverlayBody o s
  | .withdrawOverlay _ i, s => withdrawBody i.toNat s
  | .listOverlays _, s => (s, reportOverlays s)
  | .setPhrase _ i a b c, s => setPhraseBody i.toNat a b c s
  | .dropPhrase _ i, s => dropPhraseBody i.toNat s
  | .setGlyphs _ f h sp c ws bs, s => setGlyphsBody f.toNat h.toNat sp.toNat c.toNat ws bs s
  | .dropFont _ f, s => dropFontBody f.toNat s
  | .storeReport _, s => (s, reportStores s)
  | .setPalette _ f es, s => setPaletteBody f es s
  | .setChainRules _ r f e, s => setChainRulesBody r f e s
  | .panelReport _, s => (s, reportPanels s)
  | .setBrightness _ b, s => setBrightnessBody b s
  | .setLightCurve _ c, s => setLightCurveBody c s
  | .readLight _, s => (s, reportLight s)
  | _, s => (s, done [])

/-- A request that is not a reading one is applied by its body. -/
theorem exec_request {c : Instr} {v : Via} (hv : requestVia c = some v) (hr : isReadingKind (requestKind c) = false) (s : State) :
    exec c s = request v c (commandBody c) s := by
  cases c <;> cases hv <;> cases hr <;> rfl

/-- A reading request is answered with the report of its body. -/
theorem exec_reading {c : Instr} {v : Via} (hv : requestVia c = some v) (hr : isReadingKind (requestKind c) = true) (s : State) :
    exec c s = reading v c (fun s => (commandBody c s).2) s := by
  cases c <;> cases hv <;> cases hr <;> rfl

/-- What a request can do: nothing, its admission alone, or its body, ended. -/
theorem exec_request_cases {c : Instr} {v : Via} {s t : State} (hv : requestVia c = some v) (h : exec c s = .next t) :
    t = s ∨ ∃ a, admission c s = some a ∧ (t = a.state
      ∨ ∃ u, (u = a.state ∨ u = (commandBody c a.state).1) ∧
          t = finish v (requestKind c) a.seq a.lost (commandBody c a.state).2 u) := by
  cases hr : isReadingKind (requestKind c) with
  | false =>
    rw [exec_request hv hr] at h
    exact (request_cases h).imp_right fun ⟨a, ha, ht⟩ => ⟨a, ha, .inr ⟨_, .inr rfl, ht⟩⟩
  | true =>
    rw [exec_reading hv hr] at h
    refine (reading_cases h).imp_right fun ⟨a, ha, ht⟩ => ⟨a, ha, ?_⟩
    exact ht.symm.imp_right fun ht => ⟨_, .inl rfl, ht⟩

/-- The state that a command leaves. -/
def stateAfter (c : Instr) (s : State) : State :=
  match exec c s with
  | .next t => t
  | _ => s

/-- Every command answers a next state. -/
theorem exec_eq_next (c : Instr) (s : State) : exec c s = .next (stateAfter c s) := by
  have hreq : ∀ v, requestVia c = some v → ∃ t, exec c s = .next t := by
    intro v hv
    cases hr : isReadingKind (requestKind c) with
    | false => rw [exec_request hv hr]; exact request_answers _ _ _ _
    | true => rw [exec_reading hv hr]; exact reading_answers _ _ _ _
  cases hv : requestVia c with
  | some v =>
    obtain ⟨t, ht⟩ := hreq v hv
    simp only [stateAfter, ht]
  | none => cases c <;> cases hv <;> rfl

theorem stateAfter_of_next {c : Instr} {s t : State} (h : exec c s = .next t) : stateAfter c s = t := by
  simp only [stateAfter, h]

/-! ### The invariant, part by part -/

section

variable {s : State} (h : Inv s)

include h

theorem Inv.tableOk : TableOk s.table := h.1
theorem Inv.batchOk : BatchOk s.batch := h.2.1
theorem Inv.supervisorOk : SupervisorOk s.sup := h.2.2.1
theorem Inv.clockOk : ClockOk s.clock := h.2.2.2.1
theorem Inv.permissionOk : PermissionOk s := h.2.2.2.2.1
theorem Inv.overlaysOk : OverlaysOk s.overlays := h.2.2.2.2.2.1
theorem Inv.phrasesOk : PhrasesOk s.phrases := h.2.2.2.2.2.2.1
theorem Inv.fontsOk : FontsOk s.fonts := h.2.2.2.2.2.2.2.1
theorem Inv.lightOk : LightOk s.light := h.2.2.2.2.2.2.2.2.1
theorem Inv.noticesOk : NoticesOk s.notices := h.2.2.2.2.2.2.2.2.2.1
theorem Inv.deliveryOk : DeliveryOk s := h.2.2.2.2.2.2.2.2.2.2.1
theorem Inv.layoutOk : LayoutOk s.board := h.2.2.2.2.2.2.2.2.2.2.2.1
theorem Inv.lineOk : LineOk s.line := h.2.2.2.2.2.2.2.2.2.2.2.2

/-- The queue of commands is no part of the invariant. -/
theorem Inv.setPending (cs : List Instr) : Inv { s with pending := cs } := h

/-- An admission keeps the invariant: it changes the count of completions and the request held alone. -/
theorem Inv.admitted {c : Instr} {a : Admitted} (ha : admission c s = some a) : Inv a.state := by
  rw [(admission_frame ha).1]
  exact h

end

/-! ### Families of commands -/

/-- Two states are equal when their items are. -/
theorem state_eq_iff (s t : State) :
    s = t ↔ s.table = t.table ∧ s.batch = t.batch ∧ s.sup = t.sup ∧ s.clock = t.clock ∧ s.board = t.board ∧ s.overlays = t.overlays
      ∧ s.phrases = t.phrases ∧ s.fonts = t.fonts ∧ s.coder = t.coder ∧ s.chain = t.chain ∧ s.light = t.light ∧ s.line = t.line
      ∧ s.handler = t.handler ∧ s.unit = t.unit ∧ s.notices = t.notices ∧ s.tickTaken = t.tickTaken ∧ s.subTaken = t.subTaken
      ∧ s.pending = t.pending := by
  cases s; cases t; simp

/-- What a command is: a reset, something that happens at a tick, on the signline, on the panel chain or at the light sensor, or a request. -/
inductive Family where
  | reset | tick | line | chain | light | request
deriving DecidableEq

def family : Instr → Family
  | .powerOn _ | .resetPin _ | .unitReset _ => .reset
  | .internalTick _ | .subTick _ | .clockEndOfDayHold _ | .clockCoasting | .clockLapsed | .batchWindow | .supervisorExpired
  | .overlayExpired | .dwellExpiry | .probeRoundDue => .tick
  | .receiveCharacter .. | .lineIdleSeen | .frameGap | .lineBreak | .linkReset | .frameComplete _ | .requestTake | .replyStart
  | .replyWithheld | .replySent => .line
  | .probeRoundStart | .enumerationStart | .enumerationComplete _ | .enumerationTimeout | .codingComplete | .deliveryStart | .answerAck _
  | .answerNak _ | .answerTimeout | .deliveryEnd => .chain
  | .luxInPulse | .lightWindowEnd => .light
  | _ => .request

theorem family_request_iff (c : Instr) : family c = .request ↔ (requestVia c).isSome = true := by
  cases c <;> simp [family, requestVia]

/-- What the signline's events can touch. -/
theorem lineEvent_frame {c : Instr} (hc : family c = .line) (s : State) :
    stateAfter c s = { s with batch := (stateAfter c s).batch, chain := (stateAfter c s).chain, line := (stateAfter c s).line,
                              handler := (stateAfter c s).handler, notices := (stateAfter c s).notices } := by
  cases c <;> cases hc <;>
    simp only [stateAfter, exec, execReceiveCharacter, execLineIdleSeen, execFrameGap, execLineBreak, execLinkReset, execFrameComplete,
      execRequestTake, execReplyStart, execReplyWithheld, execReplySent, setReceiver, setLine] <;>
    (repeat' split) <;> simp [state_eq_iff]

/-- What the panel chain's events can touch. -/
theorem chainEvent_frame {c : Instr} (hc : family c = .chain) (s : State) :
    stateAfter c s = { s with board := (stateAfter c s).board, coder := (stateAfter c s).coder, chain := (stateAfter c s).chain,
                              notices := (stateAfter c s).notices } := by
  cases c <;> cases hc <;>
    simp only [stateAfter, exec, execProbeRoundStart, execEnumerationStart, execEnumerationComplete, execEnumerationTimeout,
      execCodingComplete, execDeliveryStart, execAnswerAck, execAnswerNak, execAnswerTimeout, execDeliveryEnd] <;>
    (repeat' split) <;> simp [state_eq_iff]

/-- What the light sensor's events can touch. -/
theorem lightEvent_frame {c : Instr} (hc : family c = .light) (s : State) :
    stateAfter c s = { s with board := (stateAfter c s).board, coder := (stateAfter c s).coder, chain := (stateAfter c s).chain,
                              light := (stateAfter c s).light, notices := (stateAfter c s).notices } := by
  cases c <;> cases hc
  · rfl
  · exact windowEnd_frame s

/-! ### The reset state (O7) -/

theorem tableOk_init : TableOk Table.init := by simp [TableOk, Table.init]

theorem batchOk_init : BatchOk BatchStage.init := by simp [BatchOk, BatchStage.init]

theorem supervisorOk_init : SupervisorOk Supervisor.init := by simp [SupervisorOk, Supervisor.init]

theorem clockOk_init : ClockOk Clock.init := by simp [ClockOk, Clock.init]

theorem countdownOk_init : CountdownOk Countdown.init := by simp [CountdownOk, Countdown.init]

theorem overlaysOk_init : OverlaysOk Overlays.init := by simp [OverlaysOk, Overlays.init, shownWrap]

theorem phrasesOk_nil : PhrasesOk [] := by simp [PhrasesOk, cellsUsed]

theorem fontsOk_init : FontsOk Fonts.init := by simp [FontsOk, Fonts.init, bytesUsed, fontBytes]

theorem lightOk_init : LightOk Light.init := by simp [LightOk, Light.init, maxCount]

theorem noticesOk_init : NoticesOk Notices.init := by simp [NoticesOk, Notices.init]

theorem lineOk_init (st : Straps) : LineOk (Line.init st) := by simp [LineOk, Line.init]

theorem all_none_get {α : Type} (p : Pos) : (Per8.all (none : Option α)).get p = none := by fin_cases p <;> rfl

theorem pageAt_none (i : Fin 4) : pageAt Pages.none i = none := by fin_cases i <;> rfl

theorem layoutOk_init : LayoutOk Board.init := by
  simp [LayoutOk, Board.init, all_none_get, pageAt_none]

theorem deliveryOk_fresh (st : Straps) (cause : ResetCause) (pending : List Instr) : DeliveryOk (State.fresh st cause pending) := by
  refine ⟨⟨fun _ => ⟨rfl, rfl, rfl⟩, fun h => absurd rfl h, Nat.zero_le _, rfl⟩, trivial, fun _ => ⟨rfl, rfl⟩, ?_⟩
  rintro _ _ ⟨⟩

/-- The power-on state meets the invariant whatever the straps, the cause and the queue. -/
theorem inv_fresh (st : Straps) (cause : ResetCause) (pending : List Instr) : Inv (State.fresh st cause pending) :=
  ⟨tableOk_init, batchOk_init, supervisorOk_init, clockOk_init, ⟨rfl, countdownOk_init, by rintro _ ⟨⟩⟩, overlaysOk_init, phrasesOk_nil,
    fontsOk_init, lightOk_init, noticesOk_init, deliveryOk_fresh st cause pending, layoutOk_init, lineOk_init st⟩

/-- So does the state that a RESET_UNIT ALL leaves: no invariant is about the last packet or the reply being sent. -/
theorem inv_unitReset (st : Straps) (s : State) : Inv (unitReset st s) := inv_fresh st .unitAll s.pending

/-- Settles O7, by the power-on state item by item. -/
theorem resetMeetsInvariant : Obligations.ResetMeetsInvariant := by
  refine ⟨inv_fresh _ _ _, ?_⟩
  rintro st s t (h | h) <;> cases h <;> exact inv_fresh _ _ _

theorem resetEvent_inv {c : Instr} (hc : family c = .reset) {s : State} (hs : Inv s) : Inv (stateAfter c s) := by
  cases c <;> cases hc
  case powerOn st => exact inv_fresh st .powerOn s.pending
  case resetPin st => exact inv_fresh st .resetPin s.pending
  case unitReset st =>
    change Inv (if s.handler.reset = .due then unitReset st s else s)
    split
    · exact inv_unitReset st s
    · exact hs

/-! ### Packaging the step -/

section

variable {P : State → Prop}

/-- What each block's tick keeps, the tick of all of them keeps. -/
theorem internalTick_keeps (hblock : ∀ b s, P s → P (blockTick b s)) (htaken : ∀ bs x s, P s → P { s with tickTaken := bs, subTaken := x })
    (order : List TickBlock) {s : State} (hs : P s) : P (internalTick order s) := by
  have hfold : P ((tickBlocks order s).foldl (fun s b => blockTick b s) s) := by
    induction tickBlocks order s generalizing s with
    | nil => exact hs
    | cons b bs ih => exact ih (hblock b s hs)
  exact htaken [] _ _ hfold

theorem takeAhead_keeps {b : TickBlock} {s : State} (hblock : P s → P (blockTick b s))
    (htaken : ∀ bs x s, P s → P { s with tickTaken := bs, subTaken := x }) (happens : State → Bool) (hs : P s) :
    P (takeAhead b happens s) := by
  unfold takeAhead
  split
  · exact htaken _ _ _ (hblock hs)
  · exact hs

/-- What happens at a tick is made of the blocks' ticks, the clock's sub-tick and the overlay stack's. -/
theorem tickEvent_keeps (hblock : ∀ b s, P s → P (blockTick b s)) (hclock : ∀ w s, P s → P (clockSubTick w s))
    (hoverlay : ∀ s, P s → P (overlaySubTick s)) (htaken : ∀ bs x s, P s → P { s with tickTaken := bs, subTaken := x })
    {c : Instr} (hc : family c = .tick) {s : State} (hs : P s) : P (stateAfter c s) := by
  cases c <;> cases hc
  case internalTick order => exact internalTick_keeps hblock htaken order hs
  case subTick w =>
    refine htaken _ false _ (hoverlay _ ?_)
    split
    · exact hs
    · exact hclock w s hs
  case clockEndOfDayHold w =>
    change P (if s.subTaken = false ∧ holdReached w s = true then _ else s)
    split
    · exact htaken _ true _ (hclock w s hs)
    · exact hs
  case clockCoasting => exact takeAhead_keeps (hblock .clock s) htaken (fun s => coasts s.clock) hs
  case clockLapsed => exact takeAhead_keeps (hblock .clock s) htaken (fun s => lapsesByAge s.clock) hs
  case batchWindow => exact takeAhead_keeps (hblock .batch s) htaken (fun s => match s.batch.stage with | none => false | some b => windowEnds b) hs
  case supervisorExpired => exact takeAhead_keeps (hblock .supervisor s) htaken supEnds hs
  case overlayExpired => exact takeAhead_keeps (hblock .overlays s) htaken (fun s => s.overlays.records.any expiresNow) hs
  case dwellExpiry => exact takeAhead_keeps (hblock .composer s) htaken dwellEnds hs
  case probeRoundDue => exact takeAhead_keeps (hblock .chain s) htaken (fun s => decide (s.chain.probeEvery ≤ probeCountNext s.chain)) hs

/-- What the body of every request, every block's tick and sub-tick, and every other event keeps of an Inv state, every step keeps. -/
theorem step_keeps (hP : ∀ s, Inv s → P s) (hfinish : ∀ v k q l a s, P s → P (finish v k q l a s))
    (hbody : ∀ c s, Inv s → P (commandBody c s).1) (hblock : ∀ b s, P s → P (blockTick b s))
    (hclock : ∀ w s, P s → P (clockSubTick w s)) (hoverlay : ∀ s, P s → P (overlaySubTick s))
    (htaken : ∀ bs x s, P s → P { s with tickTaken := bs, subTaken := x })
    (hline : ∀ c s, family c = .line → Inv s → P (stateAfter c s)) (hchain : ∀ c s, family c = .chain → Inv s → P (stateAfter c s))
    (hlight : ∀ c s, family c = .light → Inv s → P (stateAfter c s)) {s t : State} (hs : Inv s) (h : step s = .next t) : P t := by
  have hexec : ∀ c s t, Inv s → exec c s = .next t → P t := by
    intro c s t hs h
    have ht := stateAfter_of_next h
    cases hc : family c with
    | reset => exact ht ▸ hP _ (resetEvent_inv hc hs)
    | tick => exact ht ▸ tickEvent_keeps hblock hclock hoverlay htaken hc (hP s hs)
    | line => exact ht ▸ hline c s hc hs
    | chain => exact ht ▸ hchain c s hc hs
    | light => exact ht ▸ hlight c s hc hs
    | request =>
      obtain ⟨v, hv⟩ := Option.isSome_iff_exists.mp ((family_request_iff c).mp hc)
      rcases exec_request_cases hv h with rfl | ⟨a, ha, rfl | ⟨u, rfl | rfl, rfl⟩⟩
      · exact hP _ hs
      · exact hP _ (hs.admitted ha)
      · exact hfinish _ _ _ _ _ _ (hP _ (hs.admitted ha))
      · exact hfinish _ _ _ _ _ _ (hbody c _ (hs.admitted ha))
  unfold step at h
  split at h
  · cases h; exact hP s hs
  · exact hexec _ _ _ (hs.setPending _) h

end

/-! ### The queue of commands (O1, O2) -/

/-- Settles O1: both clauses are the two cases of the queue. -/
theorem stepRunsFrontCommand : Obligations.StepRunsFrontCommand := by
  refine ⟨fun c rest s h => ?_, fun s h => ?_⟩ <;> simp only [step, h]

/-- A request's body leaves the queue of commands. -/
@[simp] theorem commandBody_pending (c : Instr) (s : State) : (commandBody c s).1.pending = s.pending := by
  cases c <;> simp [commandBody]

theorem stateAfter_pending (c : Instr) (s : State) : (stateAfter c s).pending = s.pending := by
  cases hc : family c with
  | reset =>
    cases c <;> cases hc
    case reset.unitReset.refl st =>
      change (if s.handler.reset = .due then unitReset st s else s).pending = s.pending
      split <;> rfl
    all_goals rfl
  | tick =>
    refine tickEvent_keeps (P := fun u => u.pending = s.pending) ?_ ?_ ?_ (fun _ _ _ h => h) hc rfl <;> simp_all
  | line => rw [lineEvent_frame hc]
  | chain => rw [chainEvent_frame hc]
  | light => rw [lightEvent_frame hc]
  | request =>
    obtain ⟨v, hv⟩ := Option.isSome_iff_exists.mp ((family_request_iff c).mp hc)
    rcases exec_request_cases hv (exec_eq_next c s) with h | ⟨a, ha, h | ⟨u, rfl | rfl, h⟩⟩ <;>
      simp [h]
    all_goals exact admission_state_pending ha

/-- Settles O2: a command has a next state by its definition, and no part of it touches the queue. -/
theorem everyCommandCompletes : Obligations.EveryCommandCompletes :=
  fun c s => ⟨stateAfter c s, exec_eq_next c s, stateAfter_pending c s⟩

end Sys2Proof.Machine

end

/-! What every step keeps of the live table, the batch stage, the supervisor and the clock. -/

section

namespace Sys2Proof.Machine

open Sys2Proof

/-! ### The live table (R4, R5) -/

section

variable {t : Table}

theorem TableOk.ordered (h : TableOk t) : t.records.Pairwise fun a b => comesBefore a.dep b.dep = true := h.1
theorem TableOk.nodup (h : TableOk t) : (t.records.map fun r => r.dep.trip).Nodup := h.2.1
theorem TableOk.length_le (h : TableOk t) : t.records.length ≤ maxLive := h.2.2.1

/-- Other records in order, few enough, leave the table in order. -/
theorem TableOk.setRecords (h : TableOk t) {rs : List Live} (hord : rs.Pairwise fun a b => comesBefore a.dep b.dep = true)
    (hnd : (rs.map fun r => r.dep.trip).Nodup) (hlen : rs.length ≤ maxLive) : TableOk { t with records := rs } :=
  ⟨hord, hnd, hlen, h.2.2.2⟩

theorem TableOk.sublist (h : TableOk t) {rs : List Live} (hrs : rs.Sublist t.records) : TableOk { t with records := rs } :=
  h.setRecords (h.ordered.sublist hrs) (h.nodup.sublist (hrs.map _)) (hrs.length_le.trans h.length_le)

theorem TableOk.clear (h : TableOk t) : TableOk { t with records := [] } := h.sublist (List.nil_sublist _)

/-- Changing derived fields alone keeps the order. -/
theorem TableOk.map (h : TableOk t) {f : Live → Live} (hf : ∀ r, (f r).dep = r.dep) : TableOk { t with records := t.records.map f } := by
  refine h.setRecords ?_ ?_ ?_
  · simpa [List.pairwise_map, hf] using h.ordered
  · simpa [List.map_map, Function.comp_def, hf] using h.nodup
  · simpa using h.length_le

end

@[simp] theorem evalRecord_dep (c : EvalContext) (r : Live) : (evalRecord c r).dep = r.dep := by rw [evalRecord_eq, giveForm_dep]

theorem evaluate_tableOk {tick : Bool} {s : State} (h : TableOk s.table) : TableOk (evaluate tick s).table := h.map (evalRecord_dep _)

theorem recompute_tableOk {s : State} (h : TableOk s.table) : TableOk (recompute s).table := by
  unfold recompute
  split
  · exact h
  · exact evaluate_tableOk (tick := false) h

theorem expire_tableOk {cause : Nat} {s : State} (h : TableOk s.table) : TableOk (expire cause s).table := recompute_tableOk h

theorem lapse_tableOk {cause : Nat} {s : State} (h : TableOk s.table) : TableOk (lapse cause s).table := recompute_tableOk h

theorem goodClose_tableOk {s : State} (h : TableOk s.table) : TableOk (goodClose s).table := by
  unfold goodClose
  split
  · exact h
  · exact recompute_tableOk h
  · exact h

theorem badClose_tableOk {s : State} (h : TableOk s.table) : TableOk (badClose s).table := by
  unfold badClose
  split
  · exact expire_tableOk h
  · exact h

/-! ### Publishing (R27, R28) -/

theorem placed_nodup {rs : List Live} (d : Departure) (h : (rs.map fun r => r.dep.trip).Nodup) :
    ((placed d rs).map fun r => r.dep.trip).Nodup := by
  refine ((placed_perm d rs).map _).nodup_iff.mpr (List.nodup_cons.mpr ⟨?_, h.sublist (List.filter_sublist.map _)⟩)
  intro hmem
  simp only [carryOver_dep] at hmem
  obtain ⟨q, hq, htrip⟩ := List.mem_map.mp hmem
  exact (mem_removeTrip.mp hq).2 htrip

/-- Placing keeps the table in order: a record too many is trimmed at its end. -/
theorem TableOk.place {t : Table} (h : TableOk t) (d : Departure) : TableOk { t with records := (place d t.records).1 } := by
  have hord := placed_ordered d h.ordered
  have hnd := placed_nodup d h.nodup
  have hlen : (placed d t.records).length ≤ maxLive + 1 := by
    have := (List.filter_sublist (p := fun r : Live => r.dep.trip != d.trip) (l := t.records)).length_le
    have := h.length_le
    rw [placed_length, removeTrip]
    omega
  by_cases hroom : (placed d t.records).length ≤ maxLive
  · rw [place_of_room hroom]
    exact h.setRecords hord hnd hroom
  · have hplace : (Machine.place d t.records).1 = (placed d t.records).dropLast := congrArg Prod.fst (if_neg hroom)
    rw [hplace]
    have hsub := List.dropLast_sublist (placed d t.records)
    refine h.setRecords (hord.sublist hsub) (hnd.sublist (hsub.map _)) ?_
    rw [List.length_dropLast]
    omega

theorem TableOk.applyChanges {t : Table} (h : TableOk t) (cs : List Change) : TableOk { t with records := (applyChanges cs t.records).1 } := by
  induction cs generalizing t with
  | nil => exact h
  | cons c cs ih =>
    cases c with
    | put d => exact ih (h.place d)
    | drop trip => exact ih (h.sublist List.filter_sublist)

theorem replaceAll_perm (set : List Departure) (old : List Live) : (replaceAll set old).Perm (set.map (carryOver old)) := by
  induction set with
  | nil => exact List.Perm.refl _
  | cons d ds ih => exact (insertLive_perm _ _).trans (ih.cons _)

theorem replaceAll_trips (set : List Departure) (old : List Live) :
    ((replaceAll set old).map fun r => r.dep.trip).Perm (set.map fun d => d.trip) := by
  simpa [Function.comp_def, carryOver_dep] using (replaceAll_perm set old).map fun r => r.dep.trip

/-- A staged set without a trip id twice is published in order. -/
theorem replaceAll_ordered {set : List Departure} (old : List Live) (h : (set.map fun d => d.trip).Nodup) :
    (replaceAll set old).Pairwise fun a b => comesBefore a.dep b.dep = true := by
  induction set with
  | nil => exact List.Pairwise.nil
  | cons d ds ih =>
    obtain ⟨hd, hds⟩ := List.nodup_cons.mp h
    refine insertLive_ordered (ih hds) fun q hq htrip => hd ?_
    rw [carryOver_dep] at htrip
    have hmem : q.dep.trip ∈ ds.map fun d => d.trip := (replaceAll_trips ds old).subset (List.mem_map_of_mem (f := fun r => r.dep.trip) hq)
    rw [htrip] at hmem
    exact hmem

theorem staged_trips_nodup {set : List Departure} (h : set.Pairwise fun a b => a.trip < b.trip) : (set.map fun d => d.trip).Nodup :=
  List.pairwise_map.mpr (h.imp fun hlt => Nat.ne_of_lt hlt)

theorem TableOk.replaceAll {t : Table} (h : TableOk t) {set : List Departure} (hset : StagedOk (.replace set)) :
    TableOk { t with records := replaceAll set t.records } := by
  obtain ⟨hord, hlen⟩ := hset
  have hnd := staged_trips_nodup hord
  refine h.setRecords (replaceAll_ordered _ hnd) ((replaceAll_trips _ _).nodup_iff.mpr hnd) ?_
  rw [(replaceAll_perm set t.records).length_eq, List.length_map]
  exact hlen

theorem TableOk.publish {t : Table} (h : TableOk t) {st : Staged} (hst : StagedOk st) :
    TableOk { t with records := (publish st t.records).1 } := by
  cases st with
  | replace set => exact h.replaceAll hst
  | merge cs => exact h.applyChanges cs

theorem batchCloseBody_tableOk {s : State} (tag : Byte) (ht : TableOk s.table) (hb : BatchOk s.batch) :
    TableOk (batchCloseBody tag s).1.table := by
  unfold batchCloseBody
  split
  · exact badClose_tableOk ht
  · next b hstage =>
    split
    · refine goodClose_tableOk ?_
      rw [offerAll_table]
      exact ht.publish (hb.2.2.2.2 b hstage).2.2.2.2.2.2
    · exact badClose_tableOk ht

/-! ### The other operations on the table -/

theorem tableTick_tableOk {s : State} (h : TableOk s.table) : TableOk (tableTick s).table := by
  unfold tableTick
  split
  · exact h
  · exact h.sublist List.filter_sublist

theorem setRetirementBody_tableOk {s : State} (m : Nat) (h : TableOk s.table) : TableOk (setRetirementBody m s).1.table := by
  refine ⟨h.1, h.2.1, h.2.2.1, ?_⟩
  simp only [setRetirementBody, clampTo]
  omega

theorem setCountdownBody_tableOk {s : State} (x : RawCountdown) (h : TableOk s.table) : TableOk (setCountdownBody x s).1.table := by
  have hclear : TableOk { s.table with records := s.table.records.map clearDerived } := h.map fun _ => rfl
  simp only [setCountdownBody]
  split
  · exact hclear
  · exact evaluate_tableOk (tick := false) hclear

theorem applyMark_tableOk {s : State} (day m : Nat) (h : TableOk s.table) : TableOk (applyMark day m s).1.table := by
  unfold applyMark
  split
  · exact h
  · split
    · exact h.clear
    · split <;> simpa using h

theorem timeMarkBody_tableOk {s : State} (day sec six : Nat) (h : TableOk s.table) : TableOk (timeMarkBody day sec six s).1.table := by
  unfold timeMarkBody
  split
  · exact h
  · exact recompute_tableOk (applyMark_tableOk _ _ h)

theorem setBoardBody_tableOk {s : State} (w h n : Nat) (ht : TableOk s.table) : TableOk (setBoardBody w h n s).1.table := by
  unfold setBoardBody
  split
  · split
    · exact ht
    · split
      · exact ht
      · exact recompute_tableOk (by simpa using ht)
  · split
    · exact ht
    · split
      · exact ht
      · exact recompute_tableOk (by simpa using ht)
  · exact ht

theorem resetTablesBody_tableOk {s : State} (h : TableOk s.table) : TableOk (resetTablesBody s).1.table := by
  rw [show (resetTablesBody s).1.table = { s.table with records := [] } by simp [resetTablesBody]]
  exact h.clear

theorem clockTick_tableOk {s : State} (h : TableOk s.table) : TableOk (clockTick s).table := by
  unfold clockTick
  split
  · exact h
  · dsimp only
    split
    · exact h
    · split
      · exact lapse_tableOk h
      · exact h

theorem supTick_tableOk {s : State} (h : TableOk s.table) : TableOk (supTick s).table := by
  unfold supTick
  split
  · exact h
  · split
    · exact expire_tableOk h
    · exact h

theorem composerTick_tableOk {s : State} (h : TableOk s.table) : TableOk (composerTick s).table := by
  unfold composerTick
  split
  · exact h
  · simpa using evaluate_tableOk (tick := true) h
  · exact evaluate_tableOk (tick := true) h

theorem clockSubTick_tableOk {s : State} (w : Bool) (h : TableOk s.table) : TableOk (clockSubTick w s).table := by
  unfold clockSubTick
  split
  · exact h
  · dsimp only
    split
    · exact lapse_tableOk h
    · exact h

theorem blockTick_tableOk (b : TickBlock) {s : State} (h : TableOk s.table) : TableOk (blockTick b s).table := by
  cases b with
  | clock => exact clockTick_tableOk h
  | table => exact tableTick_tableOk h
  | supervisor => exact supTick_tableOk h
  | composer => exact composerTick_tableOk h
  | _ => simpa [blockTick] using h

theorem commandBody_tableOk (c : Instr) {s : State} (h : Inv s) : TableOk (commandBody c s).1.table := by
  have ht := h.tableOk
  cases c with
  | timeMark v d n x => exact timeMarkBody_tableOk _ _ _ ht
  | batchClose v tag => exact batchCloseBody_tableOk tag ht h.batchOk
  | setRetirement v m => exact setRetirementBody_tableOk _ ht
  | setBoard v w h n => exact setBoardBody_tableOk _ _ _ ht
  | setCountdown v x => exact setCountdownBody_tableOk x ht
  | resetUnitTables v => exact resetTablesBody_tableOk ht
  | _ => simpa [commandBody] using ht

theorem step_tableOk {s t : State} (hs : Inv s) (h : step s = .next t) : TableOk t.table := by
  refine step_keeps (P := fun s => TableOk s.table) (fun s hs => hs.tableOk) (fun v k q l a s h => by simpa using h)
    (fun c s hs => commandBody_tableOk c hs) (fun b s h => blockTick_tableOk b h) (fun w s h => clockSubTick_tableOk w h)
    (fun s h => by simpa using h) (fun bs x s h => h) (fun c s hc hs => ?_) (fun c s hc hs => ?_) (fun c s hc hs => ?_) hs h
  · rw [lineEvent_frame hc]; exact hs.tableOk
  · rw [chainEvent_frame hc]; exact hs.tableOk
  · rw [lightEvent_frame hc]; exact hs.tableOk

/-! ### The batch stage (R19 to R24) -/

theorem BatchOk.close {b : BatchStage} (h : BatchOk b) : BatchOk { b with stage := none } := by
  obtain ⟨h1, h2, h3, h4, -⟩ := h
  exact ⟨h1, h2, h3, h4, by rintro _ ⟨⟩⟩

/-- An open batch in order leaves the stage in order. -/
theorem BatchOk.open {b : BatchStage} (h : BatchOk b) {x : Batch} (htag : 1 ≤ x.tag ∧ x.tag ≤ 255) (hgap : 1 ≤ x.gap ∧ x.gap ≤ 30)
    (htotal : 1 ≤ x.total ∧ x.total ≤ 120) (hst : StagedOk x.staged) : BatchOk { b with stage := some x } := by
  obtain ⟨h1, h2, h3, h4, -⟩ := h
  refine ⟨h1, h2, h3, h4, ?_⟩
  rintro _ ⟨⟩
  exact ⟨htag.1, htag.2, hgap.1, hgap.2, htotal.1, htotal.2, hst⟩

theorem batchTick_batchOk {s : State} (h : BatchOk s.batch) : BatchOk (batchTick s).batch := by
  unfold batchTick
  split
  · exact h
  · next b hb =>
    obtain ⟨htag, htag', hgap, hgap', htotal, htotal', hst⟩ := h.2.2.2.2 b hb
    split
    · exact h.close
    · next hends =>
      simp only [windowEnds, Bool.or_eq_true, decide_eq_true_eq, not_or, Nat.not_le] at hends
      exact h.open ⟨htag, htag'⟩ ⟨by dsimp only; omega, by dsimp only; omega⟩ ⟨by dsimp only; omega, by dsimp only; omega⟩ hst

theorem byte_toNat_le (b : Byte) : b.toNat ≤ 255 := Nat.le_of_lt_succ b.isLt

theorem byte_toNat_pos {b : Byte} (h : b ≠ 0#8) : 1 ≤ b.toNat :=
  Nat.pos_of_ne_zero fun h0 => h (BitVec.eq_of_toNat_eq h0)

theorem batchOpenBody_batchOk {s : State} (tag mode : Byte) (h : BatchOk s.batch) : BatchOk (batchOpenBody tag mode s).1.batch := by
  have hopened : ∀ st, StagedOk st → tag ≠ 0#8 →
      BatchOk { s.batch with stage := some { tag := tag.toNat, staged := st, gap := s.batch.g, total := s.batch.w } } := by
    intro st hst htag
    obtain ⟨hg, hg', hw, hw', -⟩ := id h
    exact h.open ⟨byte_toNat_pos htag, byte_toNat_le tag⟩ ⟨hg, hg'⟩ ⟨by dsimp only; omega, hw'⟩ hst
  unfold batchOpenBody
  dsimp only
  split
  · exact h
  · next st hst =>
    have hstaged : StagedOk st := by
      split at hst
      · cases hst; exact ⟨List.Pairwise.nil, by simp⟩
      · split at hst <;> cases hst
        exact ⟨List.nodup_nil, by simp⟩
    split
    · exact h
    · next htag => split <;> exact hopened st hstaged htag

/-! ### Staging -/

theorem mem_putStaged {d q : Departure} {ds : List Departure} (h : q ∈ putStaged d ds) : q = d ∨ q ∈ ds := by
  induction ds with
  | nil => exact .inl (List.mem_singleton.mp h)
  | cons p ps ih =>
    unfold putStaged at h
    split at h
    · exact List.mem_cons.mp h
    · split at h
      · exact (List.mem_cons.mp h).imp_right (List.mem_cons_of_mem p)
      · rcases List.mem_cons.mp h with rfl | h
        · exact .inr List.mem_cons_self
        · exact (ih h).imp_right (List.mem_cons_of_mem p)

theorem putStaged_ordered {d : Departure} {ds : List Departure} (h : ds.Pairwise fun a b => a.trip < b.trip) :
    (putStaged d ds).Pairwise fun a b => a.trip < b.trip := by
  induction ds with
  | nil => exact List.pairwise_singleton _ _
  | cons p ps ih =>
    obtain ⟨hp, hps⟩ := List.pairwise_cons.mp h
    unfold putStaged
    split
    · next hlt =>
      refine List.pairwise_cons.mpr ⟨?_, h⟩
      rintro q hq
      rcases List.mem_cons.mp hq with rfl | hq
      · exact hlt
      · exact hlt.trans (hp q hq)
    · split
      · next heq => exact List.pairwise_cons.mpr ⟨fun q hq => heq ▸ hp q hq, hps⟩
      · next hlt hne =>
        refine List.pairwise_cons.mpr ⟨fun q hq => ?_, ih hps⟩
        rcases mem_putStaged hq with rfl | hq
        · omega
        · exact hp q hq

theorem putStaged_length_le (d : Departure) (ds : List Departure) : (putStaged d ds).length ≤ ds.length + 1 := by
  induction ds with
  | nil => exact Nat.le_refl _
  | cons p ps ih =>
    unfold putStaged
    split
    · exact Nat.le_refl _
    · split
      · simp
      · simpa using ih

/-- A trip id that is staged is replaced, and the staged set grows no longer. -/
theorem putStaged_length_of_mem {d : Departure} {ds : List Departure} (h : ds.Pairwise fun a b => a.trip < b.trip)
    (hmem : ∃ q ∈ ds, q.trip = d.trip) : (putStaged d ds).length = ds.length := by
  induction ds with
  | nil => obtain ⟨q, hq, -⟩ := hmem; cases hq
  | cons p ps ih =>
    obtain ⟨hp, hps⟩ := List.pairwise_cons.mp h
    obtain ⟨q, hq, htrip⟩ := hmem
    unfold putStaged
    rcases List.mem_cons.mp hq with rfl | hq
    · simp [htrip]
    · have := hp q hq
      rw [if_neg (by omega), if_neg (by omega), List.length_cons, ih hps ⟨q, hq, htrip⟩, List.length_cons]

theorem replaceChange_trips (c : Change) (cs : List Change) : (replaceChange c cs).map changeTrip = cs.map changeTrip := by
  rw [replaceChange, List.map_map]
  refine List.map_congr_left fun q _ => ?_
  dsimp only [Function.comp_apply]
  split
  · next h => exact h.symm
  · rfl

theorem stageChange_stagedOk {c : Change} {st st' : Staged} (hst : StagedOk st) (h : stageChange c st = some st') : StagedOk st' := by
  cases st with
  | replace set =>
    obtain ⟨hord, hlen⟩ := hst
    cases c with
    | put d =>
      simp only [stageChange] at h
      split at h <;> cases h
      next hroom =>
      refine ⟨putStaged_ordered hord, ?_⟩
      rcases hroom with hmem | hroom
      · rw [putStaged_length_of_mem hord (by simpa using hmem)]
        exact hlen
      · exact (putStaged_length_le d set).trans hroom
    | drop trip =>
      cases h
      exact ⟨hord.sublist List.filter_sublist, List.filter_sublist.length_le.trans hlen⟩
  | merge cs =>
    obtain ⟨hnd, hlen⟩ := hst
    simp only [stageChange] at h
    split at h
    · cases h
      exact ⟨(replaceChange_trips c cs).symm ▸ hnd, by simpa [replaceChange] using hlen⟩
    · next hnew =>
      split at h <;> cases h
      next hroom =>
      refine ⟨?_, by simp [maxChanges] at hroom ⊢; omega⟩
      rw [List.map_append, List.nodup_append]
      refine ⟨hnd, by simp, ?_⟩
      rintro x hx y hy rfl
      obtain ⟨q, hq, rfl⟩ := List.mem_map.mp hx
      rw [List.map_singleton, List.mem_singleton] at hy
      exact hnew (List.any_eq_true.mpr ⟨q, hq, by simpa using hy⟩)

theorem stageRequest_batchOk {s : State} (c : Option Change) (h : BatchOk s.batch) : BatchOk (stageRequest c s).1.batch := by
  unfold stageRequest
  split
  · exact h
  · next b hb =>
    obtain ⟨htag, htag', -, -, htotal, htotal', hst⟩ := h.2.2.2.2 b hb
    have hrestart : ∀ st, StagedOk st → BatchOk (restartGap { b with staged := st } s).batch := fun st hst =>
      h.open ⟨htag, htag'⟩ ⟨h.1, h.2.1⟩ ⟨htotal, htotal'⟩ hst
    split
    · exact hrestart _ hst
    · split
      · exact hrestart _ hst
      · next hstage => exact hrestart _ (stageChange_stagedOk hst hstage)

theorem batchCloseBody_batchOk {s : State} (tag : Byte) (h : BatchOk s.batch) : BatchOk (batchCloseBody tag s).1.batch := by
  unfold batchCloseBody
  split
  · simpa using h
  · split
    · rw [show ∀ b, (closeGood b s).1.batch = { s.batch with stage := none } from fun b => by simp [closeGood]]
      exact h.close
    · rw [badClose_batch]
      exact h.close

theorem setWindowsBody_batchOk {s : State} (gap total : Byte) (h : BatchOk s.batch) : BatchOk (setWindowsBody gap total s).1.batch := by
  obtain ⟨-, -, -, -, hstage⟩ := h
  simp only [setWindowsBody, clampTo]
  exact ⟨by dsimp only; omega, by dsimp only; omega, by dsimp only; omega, by dsimp only; omega, hstage⟩

theorem resetTablesBody_batchOk {s : State} (h : BatchOk s.batch) : BatchOk (resetTablesBody s).1.batch := by
  rw [show (resetTablesBody s).1.batch = { s.batch with stage := none } by simp [resetTablesBody]]
  exact h.close

/-- A link reset may close the batch; no other event of the line touches the stage. -/
theorem lineEvent_batch {c : Instr} (hc : family c = .line) (s : State) :
    (stateAfter c s).batch = s.batch ∨ (stateAfter c s).batch = { s.batch with stage := none } := by
  have hlink : ∀ s, (linkReset s).batch = s.batch ∨ (linkReset s).batch = { s.batch with stage := none } := by
    intro s
    simp only [linkReset, offer_batch, batchLinkReset]
    split
    · left; simp
    · split
      · left; simp
      · right; simp
  cases c <;> cases hc
  case linkReset =>
    simp only [stateAfter, exec, execLinkReset]
    split
    · exact .inl rfl
    · split
      · simpa using hlink (beginBreak s)
      · split
        · exact .inl rfl
        · exact hlink s
  all_goals
    left
    simp only [stateAfter, exec, execReceiveCharacter, execLineIdleSeen, execFrameGap, execLineBreak, execFrameComplete, execRequestTake,
      execReplyStart, execReplyWithheld, execReplySent]
    (repeat' split) <;> simp

theorem commandBody_batchOk (c : Instr) {s : State} (h : Inv s) : BatchOk (commandBody c s).1.batch := by
  have hb := h.batchOk
  cases c with
  | batchOpen v t m => exact batchOpenBody_batchOk _ _ hb
  | putDeparture v d => exact stageRequest_batchOk _ hb
  | dropDeparture v t => exact stageRequest_batchOk _ hb
  | batchClose v tag => exact batchCloseBody_batchOk tag hb
  | setBatchWindows v g w => exact setWindowsBody_batchOk _ _ hb
  | resetUnitTables v => exact resetTablesBody_batchOk hb
  | _ => simpa [commandBody] using hb

theorem blockTick_batchOk (b : TickBlock) {s : State} (h : BatchOk s.batch) : BatchOk (blockTick b s).batch := by
  cases b with
  | batch => exact batchTick_batchOk h
  | _ => simpa [blockTick] using h

theorem step_batchOk {s t : State} (hs : Inv s) (h : step s = .next t) : BatchOk t.batch := by
  refine step_keeps (P := fun s => BatchOk s.batch) (fun s hs => hs.batchOk) (fun v k q l a s h => by simpa using h)
    (fun c s hs => commandBody_batchOk c hs) (fun b s h => blockTick_batchOk b h) (fun w s h => by simpa using h)
    (fun s h => by simpa using h) (fun bs x s h => h) (fun c s hc hs => ?_) (fun c s hc hs => ?_) (fun c s hc hs => ?_) hs h
  · rcases lineEvent_batch hc s with h | h <;> rw [h]
    · exact hs.batchOk
    · exact hs.batchOk.close
  · rw [chainEvent_frame hc]; exact hs.batchOk
  · rw [lightEvent_frame hc]; exact hs.batchOk

/-! ### The supervisor (R31 to R35) -/

section

variable {p : Supervisor}

theorem SupervisorOk.expired (h : SupervisorOk p) : SupervisorOk { p with state := .expired, remaining := 0 } :=
  ⟨h.1, h.2.1, by rintro ⟨⟩, fun _ => rfl⟩

theorem SupervisorOk.armed (h : SupervisorOk p) {n : Nat} (h1 : 1 ≤ n) (h2 : n ≤ p.period) :
    SupervisorOk { p with state := .armed, remaining := n } :=
  ⟨h.1, h.2.1, fun _ => ⟨h1, h2⟩, fun hne => absurd rfl hne⟩

end

theorem expire_sup (cause : Nat) (s : State) : (expire cause s).sup = { s.sup with state := .expired, remaining := 0 } := by
  simp [expire]

theorem badClose_supervisorOk {s : State} (h : SupervisorOk s.sup) : SupervisorOk (badClose s).sup := by
  unfold badClose
  split
  · rw [expire_sup]; exact h.expired
  · exact h

theorem goodClose_supervisorOk {s : State} (h : SupervisorOk s.sup) : SupervisorOk (goodClose s).sup := by
  have hperiod : 1 ≤ s.sup.period := le_trans (by decide) h.1
  have harmed : SupervisorOk { s.sup with state := .armed, remaining := s.sup.period } := h.armed hperiod (Nat.le_refl _)
  unfold goodClose
  split
  · next hstate =>
    dsimp only
    rw [hstate]
    exact harmed
  · simpa using harmed
  · exact h

theorem batchCloseBody_supervisorOk {s : State} (tag : Byte) (h : SupervisorOk s.sup) : SupervisorOk (batchCloseBody tag s).1.sup := by
  unfold batchCloseBody
  split
  · exact badClose_supervisorOk h
  · split
    · exact goodClose_supervisorOk (by simpa using h)
    · exact badClose_supervisorOk h

theorem setSupervisorBody_supervisorOk {s : State} (period : BitVec 16) (action hold arm : Byte) (h : SupervisorOk s.sup) :
    SupervisorOk (setSupervisorBody period action hold arm s).1.sup := by
  unfold setSupervisorBody
  split
  · exact h
  · split
    · next a hb m _ _ _ =>
      have hp : 10 ≤ clampTo 10 900 period.toNat ∧ clampTo 10 900 period.toNat ≤ 900 := by simp only [clampTo]; omega
      refine ⟨hp.1, hp.2, ?_, ?_⟩ <;> cases m <;> simp
      omega
    · exact h

theorem supTick_supervisorOk {s : State} (h : SupervisorOk s.sup) : SupervisorOk (supTick s).sup := by
  unfold supTick
  split
  · exact h
  · next hcounts =>
    have hstate : s.sup.state = .armed := Decidable.not_not.mp (not_or.mp hcounts).1
    have hrem := h.2.2.1 hstate
    split
    · rw [expire_sup]; exact h.expired
    · dsimp only
      rw [hstate]
      exact h.armed (by omega) (by omega)

theorem commandBody_supervisorOk (c : Instr) {s : State} (h : Inv s) : SupervisorOk (commandBody c s).1.sup := by
  have hp := h.supervisorOk
  cases c with
  | batchClose v tag => exact batchCloseBody_supervisorOk tag hp
  | setSupervisor v p a hd m => exact setSupervisorBody_supervisorOk _ _ _ _ hp
  | _ => simpa [commandBody] using hp

theorem blockTick_supervisorOk (b : TickBlock) {s : State} (h : SupervisorOk s.sup) : SupervisorOk (blockTick b s).sup := by
  cases b with
  | supervisor => exact supTick_supervisorOk h
  | _ => simpa [blockTick] using h

theorem step_supervisorOk {s t : State} (hs : Inv s) (h : step s = .next t) : SupervisorOk t.sup := by
  refine step_keeps (P := fun s => SupervisorOk s.sup) (fun s hs => hs.supervisorOk) (fun v k q l a s h => by simpa using h)
    (fun c s hs => commandBody_supervisorOk c hs) (fun b s h => blockTick_supervisorOk b h) (fun w s h => by simpa using h)
    (fun s h => by simpa using h) (fun bs x s h => h) (fun c s hc hs => ?_) (fun c s hc hs => ?_) (fun c s hc hs => ?_) hs h
  · rw [lineEvent_frame hc]; exact hs.supervisorOk
  · rw [chainEvent_frame hc]; exact hs.supervisorOk
  · rw [lightEvent_frame hc]; exact hs.supervisorOk

/-! ### The service clock (Table 3-1) -/

section

variable {c : Clock}

/-- A run of the clock stops at the hold and takes the pending slew toward 0. -/
theorem runClock_clockOk (w : Bool) (h : ClockOk c) : ClockOk (runClock w c) := by
  obtain ⟨hvalue, hslew, hrest⟩ := h
  have hafter : (slewAfter w c.slew).natAbs ≤ c.tol * 16 := by
    unfold slewAfter
    (repeat' split) <;> omega
  unfold runClock
  dsimp only
  split
  · refine ⟨hvalue, ?_, hrest⟩
    dsimp only
    split
    · simp
    · exact hslew
  · split
    · exact ⟨Nat.le_refl _, by simp, hrest⟩
    · refine ⟨by dsimp only; omega, ?_, hrest⟩
      dsimp only
      split
      · simp
      · exact hafter

theorem aged_clockOk (h : ClockOk c) : ClockOk (aged c) := by
  obtain ⟨h1, h2, h3, h4, h5, -, hrest⟩ := h
  exact ⟨h1, h2, h3, h4, h5, Nat.min_le_left _ _, hrest⟩

/-- A state in which no agreeing marks are counted may be entered with none counted. -/
theorem ClockOk.enter (h : ClockOk c) (hagree : c.state ≠ .acquiring) (st : ClockState) : ClockOk { c with state := st } := by
  obtain ⟨h1, h2, h3, h4, hrest⟩ := h
  exact ⟨h1, h2, fun _ => h3 hagree, h4, hrest⟩

/-- A clock set to a mark's time. -/
theorem ClockOk.stepTo (h : ClockOk c) {m day : Nat} (hm : m ≤ holdValue) (hday : day ≤ 65535) :
    ClockOk { stepTo m c with day := day } := by
  obtain ⟨-, -, -, -, -, h6, hrest⟩ := h
  exact ⟨hm, by simp [Machine.stepTo], fun _ => rfl, Nat.zero_le _, hday, h6, hrest⟩

theorem ClockOk.stepTo_sameDay (h : ClockOk c) {m : Nat} (hm : m ≤ holdValue) : ClockOk (Machine.stepTo m c) :=
  h.stepTo hm h.2.2.2.2.1

/-- A mark that agrees sets a pending slew within the tolerance. -/
theorem ClockOk.agreeTo (h : ClockOk c) {m n : Nat} {st : ClockState} (hagrees : markAgrees m c = true) (hn : n ≤ 3)
    (hcount : st ≠ .acquiring → n = 0) : ClockOk { agreeTo m c with agree := n, state := st } := by
  obtain ⟨h1, -, -, -, hrest⟩ := h
  exact ⟨h1, of_decide_eq_true hagrees, hcount, hn, hrest⟩

end

theorem lapse_clock (cause : Nat) (s : State) : (lapse cause s).clock = { s.clock with state := .lapsed } := by simp [lapse]

theorem clockSubTick_clockOk {s : State} (w : Bool) (h : ClockOk s.clock) : ClockOk (clockSubTick w s).clock := by
  unfold clockSubTick
  split
  · exact h
  · dsimp only
    have hrun := runClock_clockOk w h
    split
    · next hlapse =>
      rw [lapse_clock]
      refine hrun.enter (fun hacq => ?_) _
      simp [lapsesAtHold, setClock, hacq] at hlapse
    · exact hrun

theorem clockTick_clockOk {s : State} (h : ClockOk s.clock) : ClockOk (clockTick s).clock := by
  unfold clockTick
  split
  · exact h
  · have haged := aged_clockOk h
    dsimp only
    split
    · next hcoast => exact haged.enter (fun hacq => by simp [coasts, show s.clock.state = .acquiring from hacq] at hcoast) _
    · split
      · next hlapse =>
        rw [lapse_clock]
        exact haged.enter (fun hacq => by simp [lapsesByAge, show s.clock.state = .acquiring from hacq] at hlapse) _
      · exact haged

theorem markAcquiring_clockOk {s : State} {m : Nat} (h : ClockOk s.clock) (hm : m ≤ holdValue) (hacq : s.clock.state = .acquiring) :
    ClockOk (markAcquiring m s).1.clock := by
  have hk : s.clock.k ≤ 4 := h.2.2.2.2.2.2.2.1
  unfold markAcquiring
  split
  · next hagrees =>
    split
    · exact h.agreeTo hagrees (by decide) fun _ => rfl
    · exact h.agreeTo (n := s.clock.agree + 1) (st := s.clock.state) hagrees (by omega) fun hne => absurd hacq hne
  · exact h.stepTo_sameDay hm

theorem markLocked_clockOk {s : State} {m : Nat} (h : ClockOk s.clock) (hm : m ≤ holdValue) (hne : s.clock.state ≠ .acquiring) :
    ClockOk (markLocked m s).1.clock := by
  unfold markLocked
  split
  · next hagrees => exact h.agreeTo (n := s.clock.agree) hagrees h.2.2.2.1 fun _ => h.2.2.1 hne
  · exact h.stepTo_sameDay hm

theorem applyMark_clockOk {s : State} {day m : Nat} (h : ClockOk s.clock) (hday : day ≤ 65535) (hm : m ≤ holdValue) :
    ClockOk (applyMark day m s).1.clock := by
  unfold applyMark
  split
  · exact h.stepTo hm hday
  · split
    · exact h.stepTo hm hday
    · split
      · next hacq => exact markAcquiring_clockOk h hm hacq
      · exact h.stepTo_sameDay hm
      · next hacq _ => exact markLocked_clockOk h hm hacq

theorem timeMarkBody_clockOk {s : State} {day : Nat} (sec six : Nat) (h : ClockOk s.clock) (hday : day ≤ 65535) :
    ClockOk (timeMarkBody day sec six s).1.clock := by
  unfold timeMarkBody
  split
  · exact h
  · next hrange =>
    have hm : sec * 16 + six ≤ holdValue := by simp only [maxSeconds, holdValue] at hrange ⊢; omega
    have hage : ClockOk { s.clock with age := 0 } := by
      obtain ⟨h1, h2, h3, h4, h5, -, hrest⟩ := h
      exact ⟨h1, h2, h3, h4, h5, Nat.zero_le _, hrest⟩
    rw [recompute_clock]
    exact applyMark_clockOk (s := setClock { s.clock with age := 0 } s) hage hday hm

theorem setClockRulesBody_clockOk {s : State} (k tol coast lapse : Nat) (h : ClockOk s.clock) :
    ClockOk (setClockRulesBody k tol coast lapse s).1.clock := by
  obtain ⟨h1, -, h3, h4, h5, h6, -⟩ := h
  have hslew : (limitSlew (clampTo 1 8 tol) s.clock.slew).natAbs ≤ clampTo 1 8 tol * 16 := by
    rw [limitSlew_eq_clamp]
    omega
  refine ⟨h1, hslew, h3, h4, h5, h6, ?_⟩
  simp only [setClockRulesBody, setClock, clampTo]
  omega

theorem commandBody_clockOk (c : Instr) {s : State} (h : Inv s) : ClockOk (commandBody c s).1.clock := by
  have hc := h.clockOk
  cases c with
  | timeMark v d n x => exact timeMarkBody_clockOk _ _ hc (Nat.le_of_lt_succ d.isLt)
  | setClockRules v k t c l => exact setClockRulesBody_clockOk _ _ _ _ hc
  | _ => simpa [commandBody] using hc

theorem blockTick_clockOk (b : TickBlock) {s : State} (h : ClockOk s.clock) : ClockOk (blockTick b s).clock := by
  cases b with
  | clock => exact clockTick_clockOk h
  | _ => simpa [blockTick] using h

theorem step_clockOk {s t : State} (hs : Inv s) (h : step s = .next t) : ClockOk t.clock := by
  refine step_keeps (P := fun s => ClockOk s.clock) (fun s hs => hs.clockOk) (fun v k q l a s h => by simpa using h)
    (fun c s hs => commandBody_clockOk c hs) (fun b s h => blockTick_clockOk b h) (fun w s h => clockSubTick_clockOk w h)
    (fun s h => by simpa using h) (fun bs x s h => h) (fun c s hc hs => ?_) (fun c s hc hs => ?_) (fun c s hc hs => ?_) hs h
  · rw [lineEvent_frame hc]; exact hs.clockOk
  · rw [chainEvent_frame hc]; exact hs.clockOk
  · rw [lightEvent_frame hc]; exact hs.clockOk

/-- Settles O57, block by block: the operations that touch a block keep it in order. -/
theorem stepKeepsTimetable : Obligations.StepKeepsTimetable :=
  fun _ _ hs h => ⟨step_tableOk hs h, step_batchOk hs h, step_supervisorOk hs h, step_clockOk hs h⟩

end Sys2Proof.Machine

end

/-! The Font Store: glyphs put into a font, the runs of SET_GLYPHS, the pool of bitmap bytes, and what every step keeps of the fonts. -/

section

namespace Sys2Proof.Machine

open Sys2Proof

/-! ### Putting one glyph (R108) -/

theorem find?_putGlyph_self (g : Glyph) (gs : List Glyph) : (putGlyph g gs).find? (fun q => q.code == g.code) = some g := by
  induction gs with
  | nil => simp [putGlyph]
  | cons q qs ih =>
    unfold putGlyph
    split
    · simp
    · split
      · simp
      · next hne => rw [List.find?_cons_of_neg (by simpa using fun h => hne h.symm), ih]

theorem find?_putGlyph_other (g : Glyph) {code : Nat} (hne : g.code ≠ code) (gs : List Glyph) :
    (putGlyph g gs).find? (fun q => q.code == code) = gs.find? (fun q => q.code == code) := by
  induction gs with
  | nil => simp [putGlyph, hne]
  | cons q qs ih =>
    unfold putGlyph
    split
    · simp [hne]
    · split
      · next heq => simp [hne, ← heq]
      · simp only [List.find?_cons, ih]

theorem putGlyph_ne_nil (g : Glyph) (gs : List Glyph) : putGlyph g gs ≠ [] := by
  intro h
  have := find?_putGlyph_self g gs
  simp [h] at this

theorem mem_putGlyph {g q : Glyph} {gs : List Glyph} (h : q ∈ putGlyph g gs) : q = g ∨ q ∈ gs := by
  induction gs with
  | nil => exact .inl (List.mem_singleton.mp h)
  | cons p ps ih =>
    unfold putGlyph at h
    split at h
    · exact List.mem_cons.mp h
    · split at h
      · exact (List.mem_cons.mp h).imp_right (List.mem_cons_of_mem p)
      · rcases List.mem_cons.mp h with rfl | h
        · exact .inr List.mem_cons_self
        · exact (ih h).imp_right (List.mem_cons_of_mem p)

theorem putGlyph_ordered {g : Glyph} {gs : List Glyph} (h : gs.Pairwise fun a b => a.code < b.code) :
    (putGlyph g gs).Pairwise fun a b => a.code < b.code := by
  induction gs with
  | nil => exact List.pairwise_singleton _ _
  | cons p ps ih =>
    obtain ⟨hp, hps⟩ := List.pairwise_cons.mp h
    unfold putGlyph
    split
    · next hlt =>
      refine List.pairwise_cons.mpr ⟨List.forall_mem_cons.mpr ⟨hlt, fun q hq => hlt.trans (hp q hq)⟩, h⟩
    · split
      · next heq => exact List.pairwise_cons.mpr ⟨fun q hq => heq ▸ hp q hq, hps⟩
      · next hlt hne =>
        refine List.pairwise_cons.mpr ⟨fun q hq => ?_, ih hps⟩
        rcases mem_putGlyph hq with rfl | hq
        · omega
        · exact hp q hq

/-- In a font in order, the glyph put takes the place of the one of its code. -/
theorem putGlyph_perm {g : Glyph} {gs : List Glyph} (h : gs.Pairwise fun a b => a.code < b.code) :
    (putGlyph g gs).Perm (g :: gs.filter fun q => q.code ≠ g.code) := by
  induction gs with
  | nil => exact List.Perm.refl _
  | cons p ps ih =>
    obtain ⟨hp, hps⟩ := List.pairwise_cons.mp h
    have habsent : ∀ n, n ≤ p.code → ps.filter (fun q => q.code ≠ n) = ps := fun n hn =>
      List.filter_eq_self.mpr fun q hq => by have := hp q hq; simp; omega
    unfold putGlyph
    split
    · next hlt =>
      rw [List.filter_cons_of_pos (by simp; omega), habsent _ (by omega)]
    · split
      · next heq => rw [List.filter_cons_of_neg (by simp [heq]), habsent _ (by omega)]
      · next hlt hne =>
        rw [List.filter_cons_of_pos (by simp; omega)]
        exact ((ih hps).cons p).trans (List.Perm.swap _ _ _)

/-! ### Putting a run of glyphs -/

/-- A font's glyphs after those of a run are put one by one. -/
def putGlyphs (run gs : List Glyph) : List Glyph := run.foldl (fun acc g => putGlyph g acc) gs

theorem putGlyphs_cons (g : Glyph) (run gs : List Glyph) : putGlyphs (g :: run) gs = putGlyphs run (putGlyph g gs) := rfl

theorem readGlyphs_cons (h code : Nat) (w : Byte) (ws bits : List Byte) :
    readGlyphs h code (w :: ws) bits =
      { code := code, width := w.toNat, bitmap := bits.take (glyphBytes h w.toNat) }
        :: readGlyphs h (code + 1) ws (bits.drop (glyphBytes h w.toNat)) := rfl

/-- A code outside the run keeps its glyph. -/
theorem find?_putGlyphs_outside {h first code : Nat} {ws : List Byte} (hout : code < first ∨ first + ws.length ≤ code) (bits : List Byte)
    (gs : List Glyph) :
    (putGlyphs (readGlyphs h first ws bits) gs).find? (fun q => q.code == code) = gs.find? (fun q => q.code == code) := by
  induction ws generalizing first bits gs with
  | nil => rfl
  | cons w ws ih =>
    rw [List.length_cons] at hout
    rw [readGlyphs_cons, putGlyphs_cons, ih (by omega), find?_putGlyph_other _ (by dsimp only; omega)]

/-- A code of the run has the glyph given for it. -/
theorem find?_putGlyphs_run (h first : Nat) (before : List Byte) (w : Byte) (after bits : List Byte) (gs : List Glyph) :
    (putGlyphs (readGlyphs h first (before ++ w :: after) bits) gs).find? (fun q => q.code == first + before.length) = some
      { code := first + before.length, width := w.toNat,
        bitmap := (bits.drop (before.map fun w => glyphBytes h w.toNat).sum).take (glyphBytes h w.toNat) } := by
  induction before generalizing first bits gs with
  | nil =>
    rw [List.nil_append, readGlyphs_cons, putGlyphs_cons, find?_putGlyphs_outside (by simp)]
    simpa using find?_putGlyph_self { code := first, width := w.toNat, bitmap := bits.take (glyphBytes h w.toNat) } gs
  | cons b bs ih =>
    rw [List.cons_append, readGlyphs_cons, putGlyphs_cons, List.length_cons,
      show first + (bs.length + 1) = first + 1 + bs.length by omega, ih]
    simp [List.drop_drop]

theorem putGlyphs_ne_nil {h first : Nat} {ws : List Byte} (hws : ws ≠ []) (bits : List Byte) (gs : List Glyph) :
    putGlyphs (readGlyphs h first ws bits) gs ≠ [] := by
  obtain ⟨w, after, rfl⟩ := List.exists_cons_of_ne_nil hws
  intro hnil
  have := find?_putGlyphs_run h first [] w after bits gs
  simp [hnil] at this

theorem putGlyphs_ordered {run gs : List Glyph} (h : gs.Pairwise fun a b => a.code < b.code) :
    (putGlyphs run gs).Pairwise fun a b => a.code < b.code := by
  induction run generalizing gs with
  | nil => exact h
  | cons g run ih => exact ih (putGlyph_ordered h)

theorem mem_putGlyphs {run gs : List Glyph} {q : Glyph} (h : q ∈ putGlyphs run gs) : q ∈ run ∨ q ∈ gs := by
  induction run generalizing gs with
  | nil => exact .inr h
  | cons g run ih =>
    rcases ih h with h | h
    · exact .inl (List.mem_cons_of_mem g h)
    · exact (mem_putGlyph h).imp_left fun hq => by simp [hq]

/-- In a font in order a run replaces the glyphs of its codes. -/
theorem putGlyphs_perm {h first : Nat} (ws bits : List Byte) {gs : List Glyph} (hgs : gs.Pairwise fun a b => a.code < b.code) :
    (putGlyphs (readGlyphs h first ws bits) gs).Perm
      (readGlyphs h first ws bits ++ gs.filter fun q => ! decide (first ≤ q.code ∧ q.code < first + ws.length)) := by
  induction ws generalizing first bits gs with
  | nil =>
    have : gs.filter (fun q => ! decide (first ≤ q.code ∧ q.code < first + ([] : List Byte).length)) = gs :=
      List.filter_eq_self.mpr fun q _ => by simp; omega
    rw [this]
    exact List.Perm.refl _
  | cons w ws ih =>
    rw [readGlyphs_cons, putGlyphs_cons]
    refine (ih _ (putGlyph_ordered hgs)).trans ?_
    refine ((((putGlyph_perm hgs).filter _).append_left _).trans ?_)
    rw [List.filter_cons_of_pos (by simp), List.filter_filter]
    refine List.perm_middle.trans ?_
    rw [List.cons_append]
    refine List.Perm.cons _ (List.Perm.append_left _ (List.Perm.of_eq (List.filter_congr fun q _ => ?_)))
    rw [List.length_cons, Bool.eq_iff_iff]
    simp only [Bool.and_eq_true, Bool.not_eq_true', decide_eq_false_iff_not, decide_eq_true_eq]
    omega

/-! ### Bytes (R107) -/

/-- The bytes that glyphs take in a font of this height. -/
def glyphsBytes (h : Nat) (gs : List Glyph) : Nat := (gs.map fun g => glyphBytes h g.width).sum

theorem fontBytes_some (f : Font) : fontBytes (some f) = glyphsBytes f.height f.glyphs := rfl

theorem glyphsBytes_perm (h : Nat) {gs gs' : List Glyph} (hp : gs.Perm gs') : glyphsBytes h gs = glyphsBytes h gs' :=
  (hp.map _).sum_eq

theorem glyphsBytes_readGlyphs (h first : Nat) (ws bits : List Byte) : glyphsBytes h (readGlyphs h first ws bits) = runBytes h ws := by
  induction ws generalizing first bits with
  | nil => rfl
  | cons w ws ih =>
    have := ih (first + 1) (bits.drop (glyphBytes h w.toNat))
    simp only [glyphsBytes, runBytes, readGlyphs_cons, List.map_cons, List.sum_cons] at this ⊢
    omega

theorem glyphsBytes_filter_add (h : Nat) (p : Glyph → Bool) (gs : List Glyph) :
    glyphsBytes h (gs.filter p) + glyphsBytes h (gs.filter fun q => ! p q) = glyphsBytes h gs := by
  have := glyphsBytes_perm h (List.filter_append_perm p gs)
  simpa [glyphsBytes] using this

/-- A run changes the bytes of a font in order by the difference between what it gives and what it replaces. -/
theorem glyphsBytes_putGlyphs {h first : Nat} (ws bits : List Byte) {gs : List Glyph} (hgs : gs.Pairwise fun a b => a.code < b.code) :
    glyphsBytes h (putGlyphs (readGlyphs h first ws bits) gs)
        + glyphsBytes h (gs.filter fun q => decide (first ≤ q.code ∧ q.code < first + ws.length))
      = glyphsBytes h gs + runBytes h ws := by
  have hsplit := glyphsBytes_filter_add h (fun q => decide (first ≤ q.code ∧ q.code < first + ws.length)) gs
  have happ : ∀ as bs, glyphsBytes h (as ++ bs) = glyphsBytes h as + glyphsBytes h bs := fun as bs => by simp [glyphsBytes]
  rw [glyphsBytes_perm h (putGlyphs_perm ws bits hgs), happ, glyphsBytes_readGlyphs]
  omega

/-! ### Fonts by their number -/

theorem uploaded_setUploaded {id : Nat} (hid : 1 ≤ id ∧ id ≤ 3) (fs : Fonts) (f : Option Font) (n : Nat) :
    uploaded (setUploaded fs id f) n = if n = id then f else uploaded fs n := by
  obtain rfl | rfl | rfl : id = 1 ∨ id = 2 ∨ id = 3 := by omega
  all_goals
    split
    · next h => subst h; rfl
    · unfold uploaded
      split <;> trivial

theorem bytesUsed_setUploaded {id : Nat} (hid : 1 ≤ id ∧ id ≤ 3) (fs : Fonts) (f : Option Font) :
    bytesUsed (setUploaded fs id f) + fontBytes (uploaded fs id) = bytesUsed fs + fontBytes f := by
  obtain rfl | rfl | rfl : id = 1 ∨ id = 2 ∨ id = 3 := by omega
  all_goals
    simp only [bytesUsed, setUploaded, uploaded]
    omega

theorem fontsOk_iff (fs : Fonts) : FontsOk fs ↔ (∀ n f, uploaded fs n = some f → FontOk f) ∧ bytesUsed fs ≤ maxBitmapBytes := by
  refine and_congr_left fun _ => ⟨fun h n f hf => ?_, fun h f hf => ?_⟩
  · unfold uploaded at hf
    split at hf
    · exact h f (.inl hf)
    · exact h f (.inr (.inl hf))
    · exact h f (.inr (.inr hf))
    · cases hf
  · rcases hf with hf | hf | hf
    · exact h 1 f hf
    · exact h 2 f hf
    · exact h 3 f hf

/-! ### SET_GLYPHS -/

theorem glyphFieldsOk_eq_false_iff (font height spacing first : Byte) (widths : List Byte) :
    glyphFieldsOk font.toNat height.toNat spacing.toNat first.toNat widths = false ↔
      font = 0#8 ∨ 3 < font.toNat ∨ height.toNat < 5 ∨ 24 < height.toNat ∨ 3 < spacing.toNat ∨ widths = [] ∨ 32 < widths.length
        ∨ 255 < first.toNat + widths.length - 1 ∨ ∃ w ∈ widths, w = 0#8 ∨ 16 < w.toNat := by
  have hzero : ∀ b : Byte, b = 0#8 ↔ b.toNat = 0 := fun b => ⟨fun h => h ▸ rfl, fun h => BitVec.eq_of_toNat_eq h⟩
  have hnil : widths = [] ↔ widths.length = 0 := List.length_eq_zero_iff.symm
  have hall : (widths.all fun w => decide (1 ≤ w.toNat ∧ w.toNat ≤ 16)) = false ↔ ∃ w ∈ widths, w = 0#8 ∨ 16 < w.toNat := by
    rw [List.all_eq_false]
    refine exists_congr fun w => and_congr_right fun _ => ?_
    rw [hzero]
    simp only [decide_eq_true_eq]
    omega
  rw [glyphFieldsOk, Bool.and_eq_false_iff, hall, decide_eq_false_iff_not, hzero, hnil]
  by_cases hw : ∃ w ∈ widths, w = 0#8 ∨ 16 < w.toNat
  · simp [hw]
  · simp only [hw, or_false]
    omega

theorem fontMatches_eq_false_iff (f : Option Font) (h sp : Nat) :
    fontMatches f h sp = false ↔ ∃ x, f = some x ∧ (x.height ≠ h ∨ x.spacing ≠ sp) := by
  cases f <;> simp [fontMatches, or_iff_not_imp_left]

/-- The glyphs of a font id, none of an empty font's. -/
def heldGlyphs (f : Option Font) : List Glyph := (f.map fun f => f.glyphs).getD []

/-- The font that a run leaves. -/
theorem storeRun_eq (f : Option Font) (h sp : Nat) (run : List Glyph) :
    storeRun f h sp run = { height := h, spacing := sp, glyphs := putGlyphs run (heldGlyphs f) } := rfl

theorem bytesForRun_eq {f : Option Font} {h sp : Nat} (hf : fontMatches f h sp = true) (first count : Nat) :
    bytesForRun f first count = glyphsBytes h ((heldGlyphs f).filter fun g => decide (first ≤ g.code ∧ g.code < first + count)) := by
  cases f with
  | none => rfl
  | some x =>
    simp only [fontMatches, Bool.and_eq_true, beq_iff_eq] at hf
    rw [← hf.1]
    rfl

theorem fontBytes_eq {f : Option Font} {h sp : Nat} (hf : fontMatches f h sp = true) : fontBytes f = glyphsBytes h (heldGlyphs f) := by
  cases f with
  | none => rfl
  | some x =>
    simp only [fontMatches, Bool.and_eq_true, beq_iff_eq] at hf
    rw [← hf.1]
    rfl

section

variable {font h sp first : Nat} {widths bits : List Byte} {s : State}

theorem setGlyphsBody_badField
    (hbad : glyphFieldsOk font h sp first widths = false ∨ fontMatches (uploaded s.fonts font) h sp = false) :
    setGlyphsBody font h sp first widths bits s = (s, .refused .badField) := by
  rcases hbad with hbad | hbad <;> simp [setGlyphsBody, hbad]

variable (hok : glyphFieldsOk font h sp first widths = true) (hmatch : fontMatches (uploaded s.fonts font) h sp = true)

include hok hmatch

theorem setGlyphsBody_badLength (hlen : bits.length ≠ runBytes h widths) :
    setGlyphsBody font h sp first widths bits s = (s, .refused .badLength) := by
  simp [setGlyphsBody, hok, hmatch, hlen]

theorem setGlyphsBody_noSpace (hlen : bits.length = runBytes h widths)
    (hfull : maxBitmapBytes < bytesUsed s.fonts + runBytes h widths - bytesForRun (uploaded s.fonts font) first widths.length) :
    setGlyphsBody font h sp first widths bits s = (s, .refused .noSpace) := by
  simp [setGlyphsBody, hok, hmatch, hlen, hfull]

/-- The fonts after SET_GLYPHS has stored its run. -/
theorem setGlyphsBody_stored (hlen : bits.length = runBytes h widths)
    (hroom : bytesUsed s.fonts + runBytes h widths - bytesForRun (uploaded s.fonts font) first widths.length ≤ maxBitmapBytes)
    {f : Font} (hf : f = storeRun (uploaded s.fonts font) h sp (readGlyphs h first widths bits))
    {fs : Fonts} (hfs : fs = setUploaded s.fonts font (some f)) :
    setGlyphsBody font h sp first widths bits s =
      ({ s with fonts := fs }, done (num2 f.glyphs.length ++ num2 (fontBytes (some f)) ++ num2 (bytesUsed fs))) := by
  subst hf hfs
  simp [setGlyphsBody, hok, hmatch, hlen, Nat.not_lt.mpr hroom]

end

theorem mem_readGlyphs {h first : Nat} {ws bits : List Byte} (hlen : bits.length = runBytes h ws) {g : Glyph}
    (hg : g ∈ readGlyphs h first ws bits) :
    g.code < first + ws.length ∧ (∃ w ∈ ws, g.width = w.toNat) ∧ g.bitmap.length = glyphBytes h g.width := by
  induction ws generalizing first bits with
  | nil => cases hg
  | cons w ws ih =>
    have hbytes : bits.length = glyphBytes h w.toNat + runBytes h ws := by simpa [runBytes] using hlen
    rw [readGlyphs_cons, List.mem_cons] at hg
    rcases hg with rfl | hg
    · refine ⟨by simp, ⟨w, List.mem_cons_self, rfl⟩, ?_⟩
      rw [List.length_take]
      exact Nat.min_eq_left (by omega)
    · obtain ⟨hcode, ⟨v, hv, hwidth⟩, hbitmap⟩ := ih (by rw [List.length_drop]; omega) hg
      exact ⟨by rw [List.length_cons]; omega, ⟨v, List.mem_cons_of_mem w hv, hwidth⟩, hbitmap⟩

theorem heldGlyphs_ordered {fs : Fonts} (h : FontsOk fs) (n : Nat) :
    (heldGlyphs (uploaded fs n)).Pairwise fun a b => a.code < b.code := by
  cases hf : uploaded fs n with
  | none => exact List.Pairwise.nil
  | some f =>
    obtain ⟨-, -, -, -, hord, -⟩ := ((fontsOk_iff fs).mp h).1 n f hf
    exact hord

theorem mem_heldGlyphs {fs : Fonts} (h : FontsOk fs) {n height sp : Nat} (hmatch : fontMatches (uploaded fs n) height sp = true) {g : Glyph}
    (hg : g ∈ heldGlyphs (uploaded fs n)) : g.code ≤ 255 ∧ 1 ≤ g.width ∧ g.width ≤ 16 ∧ g.bitmap.length = glyphBytes height g.width := by
  cases hf : uploaded fs n with
  | none => rw [hf] at hg; cases hg
  | some f =>
    rw [hf] at hg hmatch
    simp only [fontMatches, Bool.and_eq_true, beq_iff_eq] at hmatch
    obtain ⟨-, -, -, -, -, hall⟩ := ((fontsOk_iff fs).mp h).1 n f hf
    rw [← hmatch.1]
    exact hall g hg

section

variable {font h sp first : Nat} {widths bits : List Byte} {fs : Fonts}
variable (hfs : FontsOk fs) (hok : glyphFieldsOk font h sp first widths = true) (hmatch : fontMatches (uploaded fs font) h sp = true)

include hfs hok hmatch

/-- The bytes of the pool change by the difference between the run and what it replaces. -/
theorem bytesUsed_storeRun {f : Font} (hf : f = storeRun (uploaded fs font) h sp (readGlyphs h first widths bits)) :
    bytesUsed (setUploaded fs font (some f)) + bytesForRun (uploaded fs font) first widths.length = bytesUsed fs + runBytes h widths := by
  have hfields := of_decide_eq_true (Bool.and_eq_true_iff.mp hok).1
  have hset := bytesUsed_setUploaded ⟨hfields.1, hfields.2.1⟩ fs (some f)
  have hrun := glyphsBytes_putGlyphs (h := h) (first := first) widths bits (heldGlyphs_ordered hfs font)
  rw [hf, storeRun_eq, fontBytes_some, fontBytes_eq hmatch] at hset
  rw [hf, storeRun_eq, bytesForRun_eq hmatch]
  dsimp only at hset hrun ⊢
  omega

theorem storeRun_fontOk (hlen : bits.length = runBytes h widths) :
    FontOk (storeRun (uploaded fs font) h sp (readGlyphs h first widths bits)) := by
  obtain ⟨hfields, hwidths⟩ := Bool.and_eq_true_iff.mp hok
  obtain ⟨-, -, h5, h24, hsp, hone, -, hlast⟩ := of_decide_eq_true hfields
  rw [storeRun_eq]
  refine ⟨h5, h24, hsp, putGlyphs_ne_nil (List.length_pos_iff.mp hone) _ _, putGlyphs_ordered (heldGlyphs_ordered hfs font), ?_⟩
  intro g hg
  rcases mem_putGlyphs hg with hg | hg
  · obtain ⟨hcode, ⟨w, hw, hwidth⟩, hbitmap⟩ := mem_readGlyphs hlen hg
    have hrange := of_decide_eq_true (List.all_eq_true.mp hwidths w hw)
    exact ⟨by omega, by omega, by omega, hbitmap⟩
  · exact mem_heldGlyphs hfs hmatch hg

end

theorem setUploaded_fontsOk {fs : Fonts} (h : FontsOk fs) {id : Nat} (hid : 1 ≤ id ∧ id ≤ 3) {f : Option Font} (hf : ∀ x, f = some x → FontOk x)
    (hbytes : bytesUsed (setUploaded fs id f) ≤ maxBitmapBytes) : FontsOk (setUploaded fs id f) := by
  refine (fontsOk_iff _).mpr ⟨fun n x hx => ?_, hbytes⟩
  rw [uploaded_setUploaded hid] at hx
  split at hx
  · exact hf x hx
  · exact ((fontsOk_iff fs).mp h).1 n x hx

theorem setGlyphsBody_fontsOk {s : State} (font h sp first : Nat) (widths bits : List Byte) (hs : FontsOk s.fonts) :
    FontsOk (setGlyphsBody font h sp first widths bits s).1.fonts := by
  by_cases hbad : glyphFieldsOk font h sp first widths = false ∨ fontMatches (uploaded s.fonts font) h sp = false
  · rw [setGlyphsBody_badField hbad]; exact hs
  · simp only [not_or, Bool.not_eq_false] at hbad
    obtain ⟨hok, hmatch⟩ := hbad
    by_cases hlen : bits.length = runBytes h widths
    · by_cases hroom : bytesUsed s.fonts + runBytes h widths - bytesForRun (uploaded s.fonts font) first widths.length ≤ maxBitmapBytes
      · rw [setGlyphsBody_stored hok hmatch hlen hroom rfl rfl]
        have hfields := of_decide_eq_true (Bool.and_eq_true_iff.mp hok).1
        have hbytes := bytesUsed_storeRun (bits := bits) hs hok hmatch rfl
        refine setUploaded_fontsOk hs ⟨hfields.1, hfields.2.1⟩ ?_ (by omega)
        rintro _ ⟨⟩
        exact storeRun_fontOk hs hok hmatch hlen
      · rw [setGlyphsBody_noSpace hok hmatch hlen (Nat.not_le.mp hroom)]; exact hs
    · rw [setGlyphsBody_badLength hok hmatch hlen]; exact hs

/-! ### DROP_FONT (R109) -/

theorem dropFontBody_badField {font : Nat} {s : State} (h : font = 0 ∨ 3 < font) : dropFontBody font s = (s, .refused .badField) := if_pos h

theorem dropFontBody_notFound {font : Nat} {s : State} (h : 1 ≤ font ∧ font ≤ 3) (hnone : uploaded s.fonts font = none) :
    dropFontBody font s = (s, .refused .notFound) := by
  rw [dropFontBody, if_neg (by omega), if_pos hnone]

theorem dropFontBody_dropped {font : Nat} {s : State} (h : 1 ≤ font ∧ font ≤ 3) (hheld : uploaded s.fonts font ≠ none) {fs : Fonts}
    (hfs : fs = setUploaded s.fonts font none) : dropFontBody font s = ({ s with fonts := fs }, done (num2 (bytesUsed fs))) := by
  subst hfs
  rw [dropFontBody, if_neg (by omega), if_neg hheld]

theorem dropFontBody_fontsOk {s : State} (font : Nat) (h : FontsOk s.fonts) : FontsOk (dropFontBody font s).1.fonts := by
  by_cases hid : 1 ≤ font ∧ font ≤ 3
  · by_cases hnone : uploaded s.fonts font = none
    · rw [dropFontBody_notFound hid hnone]; exact h
    · rw [dropFontBody_dropped hid hnone rfl]
      have hbytes := bytesUsed_setUploaded hid s.fonts none
      have hpool := ((fontsOk_iff _).mp h).2
      exact setUploaded_fontsOk h hid (by rintro _ ⟨⟩) (by simp only [fontBytes] at hbytes; omega)
  · rw [dropFontBody_badField (by omega)]; exact h

/-- Settles O48, by R108's checks in order, the run put into the font glyph by glyph, and the font dropped. -/
theorem glyphsSetAndFontDropped : Obligations.GlyphsSetAndFontDropped := by
  refine ⟨?glyphs, ?drop⟩
  case glyphs =>
    rintro v font height spacing first widths bits s a c need old badField rfl hadm hneed hold hbad
    rw [← admission_state_fonts hadm] at hold hbad ⊢
    have hbad' : badField ↔ glyphFieldsOk font.toNat height.toNat spacing.toNat first.toNat widths = false
        ∨ fontMatches (uploaded a.state.fonts font.toNat) height.toNat spacing.toNat = false := by
      rw [hbad, glyphFieldsOk_eq_false_iff, fontMatches_eq_false_iff]
      simp only [or_assoc]
    have hrun : need = runBytes height.toNat widths := hneed
    refine ⟨fun h => request_answered hadm (setGlyphsBody_badField (hbad'.mp h)), ?_⟩
    by_cases hb : badField
    · exact ⟨fun h => absurd hb h, fun h => absurd hb h, fun h => absurd hb h⟩
    have hgood := mt hbad'.mpr hb
    simp only [not_or, Bool.not_eq_false] at hgood
    obtain ⟨hok, hmatch⟩ := hgood
    have hreplaced : old = bytesForRun (uploaded a.state.fonts font.toNat) first.toNat widths.length := by
      rw [hold, bytesForRun_eq hmatch, glyphsBytes, List.sum_eq_foldr, List.foldr_map]
      rfl
    have hfields := of_decide_eq_true (Bool.and_eq_true_iff.mp hok).1
    have hid : 1 ≤ font.toNat ∧ font.toNat ≤ 3 := ⟨hfields.1, hfields.2.1⟩
    rw [hrun, hreplaced]
    refine ⟨fun _ h => request_answered hadm (setGlyphsBody_badLength hok hmatch h),
      fun _ hlen h => request_answered hadm (setGlyphsBody_noSpace hok hmatch hlen h), fun _ hlen hroom => ?_⟩
    refine ⟨_, storeRun (uploaded a.state.fonts font.toNat) height.toNat spacing.toNat (readGlyphs height.toNat first.toNat widths bits),
      ?_, rfl, rfl, fun n hn => ?_, ?_, fun code hcode => ?_, fun hfs => ?_,
      request_answered hadm (setGlyphsBody_stored hok hmatch hlen hroom rfl rfl)⟩
    · rw [uploaded_setUploaded hid, if_pos rfl]
    · rw [uploaded_setUploaded hid, if_neg hn]
    · rintro before w after rfl
      exact find?_putGlyphs_run _ _ _ _ _ _ _
    · refine (find?_putGlyphs_outside hcode _ _).trans ?_
      cases uploaded a.state.fonts font.toNat <;> rfl
    · have := bytesUsed_storeRun (bits := bits) hfs hok hmatch rfl
      omega
  case drop =>
    intro v font s a hadm
    have hzero : font = 0#8 ↔ font.toNat = 0 := ⟨fun h => h ▸ rfl, fun h => BitVec.eq_of_toNat_eq h⟩
    rw [← admission_state_fonts hadm, Ne, hzero]
    refine ⟨fun h => request_answered hadm (dropFontBody_badField h),
      fun h0 h3 h => request_answered hadm (dropFontBody_notFound (by omega) h), fun f h0 h3 hf => ?_⟩
    have hid : 1 ≤ font.toNat ∧ font.toNat ≤ 3 := by omega
    refine ⟨setUploaded a.state.fonts font.toNat none, uploaded_setUploaded hid _ _, ?_, ?_,
      request_answered hadm (dropFontBody_dropped hid (by simp [hf]) rfl)⟩
    · simp [resolveFont, uploaded_setUploaded hid]
    · have := bytesUsed_setUploaded hid a.state.fonts none
      rw [hf] at this
      exact this

theorem commandBody_fontsOk (c : Instr) {s : State} (h : Inv s) : FontsOk (commandBody c s).1.fonts := by
  have hf := h.fontsOk
  cases c with
  | setGlyphs v f h sp c ws bs => exact setGlyphsBody_fontsOk _ _ _ _ _ _ hf
  | dropFont v f => exact dropFontBody_fontsOk _ hf
  | _ => simpa [commandBody] using hf

theorem step_fontsOk {s t : State} (hs : Inv s) (h : step s = .next t) : FontsOk t.fonts := by
  refine step_keeps (P := fun s => FontsOk s.fonts) (fun s hs => hs.fontsOk) (fun v k q l a s h => by simpa using h)
    (fun c s hs => commandBody_fontsOk c hs) (fun b s h => by simpa using h) (fun w s h => by simpa using h)
    (fun s h => by simpa using h) (fun bs x s h => h) (fun c s hc hs => ?_) (fun c s hc hs => ?_) (fun c s hc hs => ?_) hs h
  · rw [lineEvent_frame hc]; exact hs.fontsOk
  · rw [chainEvent_frame hc]; exact hs.fontsOk
  · rw [lightEvent_frame hc]; exact hs.fontsOk

end Sys2Proof.Machine

end

/-! What every step keeps of the overlay stack, the phrase store and the light meter. -/

section

namespace Sys2Proof.Machine

open Sys2Proof

/-! ### The overlay stack (R89 to R95) -/

/-- An id and a speed within their ranges. -/
def OverlayOk (o : Overlay) : Prop := 1 ≤ o.id ∧ o.id ≤ 255 ∧ 8 ≤ o.speed ∧ o.speed ≤ 64

theorem overlaysOk_iff (o : Overlays) :
    OverlaysOk o ↔ o.records.length ≤ maxOverlays ∧ (o.records.map fun r => r.id).Nodup ∧ (∀ r ∈ o.records, OverlayOk r)
      ∧ o.shownSince < shownWrap ∧ (o.records = [] → o.shownSince = 0) := Iff.rfl

theorem readOverlay_overlayOk {raw : RawOverlay} {o : Overlay} (h : readOverlay raw = some o) : OverlayOk o := by
  unfold readOverlay at h
  split at h
  · split at h <;> cases h
    next hid =>
    have hspeed : 8 ≤ clampTo 8 64 raw.speed.toNat ∧ clampTo 8 64 raw.speed.toNat ≤ 64 := by simp only [clampTo]; omega
    exact ⟨byte_toNat_pos hid.1, byte_toNat_le _, hspeed⟩
  · cases h

theorem mem_withoutId {id : Nat} {os : List Overlay} {o : Overlay} : o ∈ withoutId id os ↔ o ∈ os ∧ o.id ≠ id := by
  simp [withoutId]

/-- What stays under a pushed record. -/
def stillUnder (kept : List Overlay) : List Overlay := if kept.length < maxOverlays then kept else kept.dropLast

theorem pushed_eq (o : Overlay) (os : List Overlay) : pushed o os = o :: stillUnder (withoutId o.id os) := rfl

theorem stillUnder_sublist (kept : List Overlay) : (stillUnder kept).Sublist kept := by
  unfold stillUnder
  split
  · exact List.Sublist.refl _
  · exact List.dropLast_sublist _

theorem stillUnder_length {kept : List Overlay} (h : kept.length ≤ maxOverlays) : (stillUnder kept).length < maxOverlays := by
  unfold stillUnder
  split
  · assumption
  · rw [List.length_dropLast]
    have : 0 < maxOverlays := by decide
    omega

theorem pushed_overlaysOk {s : Overlays} (h : OverlaysOk s) {o : Overlay} (ho : OverlayOk o) :
    OverlaysOk { records := pushed o s.records, shownSince := 0 } := by
  obtain ⟨hlen, hnd, hall, -, -⟩ := (overlaysOk_iff s).mp h
  have hsub := (stillUnder_sublist (withoutId o.id s.records))
  have hkept : (withoutId o.id s.records).length ≤ maxOverlays := List.filter_sublist.length_le.trans hlen
  rw [pushed_eq]
  refine ⟨stillUnder_length hkept, ?_, List.forall_mem_cons.mpr ⟨ho, fun r hr => hall r ?_⟩, (by decide : 0 < shownWrap), fun _ => rfl⟩
  · refine List.nodup_cons.mpr ⟨fun hmem => ?_, hnd.sublist ((hsub.trans List.filter_sublist).map _)⟩
    obtain ⟨r, hr, hid⟩ := List.mem_map.mp hmem
    exact (mem_withoutId.mp (hsub.subset hr)).2 hid
  · exact (mem_withoutId.mp (hsub.subset hr)).1

/-- Records removed and a shown-since count kept, or cleared where none is left. -/
theorem OverlaysOk.sublist {s : Overlays} (h : OverlaysOk s) {rs : List Overlay} (hrs : rs.Sublist s.records) {n : Nat}
    (hn : n = 0 ∨ n = s.shownSince ∧ rs ≠ []) : OverlaysOk { records := rs, shownSince := n } := by
  obtain ⟨hlen, hnd, hall, hshown, -⟩ := h
  refine ⟨hrs.length_le.trans hlen, hnd.sublist (hrs.map _), fun r hr => hall r (hrs.subset hr), ?_, ?_⟩
  · rcases hn with rfl | ⟨rfl, -⟩
    · exact (by decide : 0 < shownWrap)
    · exact hshown
  · rintro rfl
    exact hn.resolve_right fun h => h.2 rfl

@[simp] theorem overlayRender_overlays_eq (s : State) : (overlayRender s).overlays = s.overlays := by simp

theorem pushOverlayBody_overlaysOk {s : State} (raw : RawOverlay) (h : OverlaysOk s.overlays) :
    OverlaysOk (pushOverlayBody raw s).1.overlays := by
  unfold pushOverlayBody
  split
  · exact h
  · next o ho => simpa [setOverlays] using pushed_overlaysOk h (readOverlay_overlayOk ho)

theorem withdrawBody_overlaysOk {s : State} (id : Nat) (h : OverlaysOk s.overlays) : OverlaysOk (withdrawBody id s).1.overlays := by
  unfold withdrawBody
  split
  · exact h
  · split
    · exact h
    · next hheld =>
      have hok : OverlaysOk { records := withoutId id s.overlays.records,
                              shownSince := if isTop id s.overlays.records = true then 0 else s.overlays.shownSince } := by
        refine h.sublist List.filter_sublist ?_
        split
        · exact .inl rfl
        · next htop =>
          refine .inr ⟨rfl, fun hnil => htop ?_⟩
          cases hrecs : s.overlays.records with
          | nil => exact absurd (by rw [hrecs]; rfl) hheld
          | cons o rest =>
            have hout : ¬ o ∈ withoutId id (o :: rest) := fun hmem => List.not_mem_nil ((hrecs ▸ hnil : withoutId id (o :: rest) = []) ▸ hmem)
            simpa [isTop, mem_withoutId] using hout
      simpa [setOverlays, apply_ite State.overlays] using hok

theorem overlayTick_overlays (s : State) :
    (overlayTick s).overlays
      = { records := (s.overlays.records.filter fun o => !expiresNow o).map countDown,
          shownSince := if ((s.overlays.records.head?.map expiresNow) == some true) = true then 0 else s.overlays.shownSince } := by
  simp only [overlayTick, apply_ite State.overlays, overlayRender_overlays_eq, offerAll_overlays, setOverlays, ite_self]

theorem overlayTick_overlaysOk {s : State} (h : OverlaysOk s.overlays) : OverlaysOk (overlayTick s).overlays := by
  obtain ⟨hlen, hnd, hall, hshown, -⟩ := (overlaysOk_iff _).mp h
  have hkept : OverlaysOk { records := s.overlays.records.filter fun o => !expiresNow o,
                            shownSince := if ((s.overlays.records.head?.map expiresNow) == some true) = true then 0 else s.overlays.shownSince } := by
    refine h.sublist List.filter_sublist ?_
    split
    · exact .inl rfl
    · next htop =>
      cases hrecs : s.overlays.records with
      | nil => exact .inl (h.2.2.2.2 hrecs)
      | cons o rest =>
        refine .inr ⟨rfl, fun hnil => ?_⟩
        rw [hrecs] at htop
        have : expiresNow o = false := by simpa using htop
        simp [this] at hnil
  have hok : ∀ rs n, OverlaysOk { records := rs, shownSince := n } → OverlaysOk { records := rs.map countDown, shownSince := n } := by
    rintro rs n ⟨h1, h2, h3, h4, h5⟩
    refine ⟨by simpa using h1, by simpa [Function.comp_def, countDown] using h2, ?_, h4, fun hnil => h5 (List.map_eq_nil_iff.mp hnil)⟩
    intro r hr
    obtain ⟨q, hq, rfl⟩ := List.mem_map.mp hr
    exact h3 q hq
  rw [overlayTick_overlays]
  exact hok _ _ hkept

theorem overlaySubTick_overlaysOk {s : State} (h : OverlaysOk s.overlays) : OverlaysOk (overlaySubTick s).overlays := by
  obtain ⟨hlen, hnd, hall, -, -⟩ := id h
  unfold overlaySubTick
  split
  · exact h
  · next hne =>
    have hcount : OverlaysOk { s.overlays with shownSince := (s.overlays.shownSince + 1) % shownWrap } :=
      ⟨hlen, hnd, hall, Nat.mod_lt _ (by decide), fun hnil => absurd hnil hne⟩
    dsimp only
    split <;> simpa [setOverlays] using hcount

theorem commandBody_overlaysOk (c : Instr) {s : State} (h : Inv s) : OverlaysOk (commandBody c s).1.overlays := by
  have ho := h.overlaysOk
  cases c with
  | pushOverlay v o => exact pushOverlayBody_overlaysOk o ho
  | withdrawOverlay v id => exact withdrawBody_overlaysOk _ ho
  | resetUnitTables v =>
    rw [show (commandBody (.resetUnitTables v) s).1.overlays = Overlays.init by simp [commandBody, resetTablesBody, clearOverlays, setOverlays]]
    exact overlaysOk_init
  | _ => simpa [commandBody] using ho

theorem blockTick_overlaysOk (b : TickBlock) {s : State} (h : OverlaysOk s.overlays) : OverlaysOk (blockTick b s).overlays := by
  cases b with
  | overlays => exact overlayTick_overlaysOk h
  | _ => simpa [blockTick] using h

theorem step_overlaysOk {s t : State} (hs : Inv s) (h : step s = .next t) : OverlaysOk t.overlays := by
  refine step_keeps (P := fun s => OverlaysOk s.overlays) (fun s hs => hs.overlaysOk) (fun v k q l a s h => by simpa using h)
    (fun c s hs => commandBody_overlaysOk c hs) (fun b s h => blockTick_overlaysOk b h) (fun w s h => by simpa using h)
    (fun s h => overlaySubTick_overlaysOk h) (fun bs x s h => h) (fun c s hc hs => ?_) (fun c s hc hs => ?_) (fun c s hc hs => ?_) hs h
  · rw [lineEvent_frame hc]; exact hs.overlaysOk
  · rw [chainEvent_frame hc]; exact hs.overlaysOk
  · rw [lightEvent_frame hc]; exact hs.overlaysOk

/-! ### The phrase store (R102 to R104) -/

theorem phraseOk_of_check {id : Nat} {x y z : List Byte} (h : phraseOk id x y z = true) : PhraseOk ⟨id, x, y, z⟩ := by
  obtain ⟨hid, hlen⟩ := Bool.and_eq_true_iff.mp h
  obtain ⟨h1, h2⟩ := of_decide_eq_true hid
  obtain ⟨h3, h4, h5, h6⟩ := of_decide_eq_true hlen
  exact ⟨h1, h2, h3, h4, h5, h6⟩

theorem putPhrase_phrasesOk {ps : List Phrase} (h : PhrasesOk ps) {p : Phrase} (hp : PhraseOk p)
    (hroom : ¬ (findPhrase p.id ps = none ∧ maxPhrases ≤ ps.length)) (hcells : cellsUsed ps + phraseCells p - cellsOf p.id ps ≤ maxCells) :
    PhrasesOk (putPhrase p ps) := by
  obtain ⟨hord, hall, hlen, -⟩ := h
  have hperm := putPhrase_perm (p := p) hord
  refine ⟨putPhrase_ordered hord, fun q hq => ?_, ?_, (cellsUsed_putPhrase hord).symm ▸ hcells⟩
  · rcases List.mem_cons.mp (hperm.subset hq) with rfl | hq
    · exact hp
    · exact hall q (List.mem_filter.mp hq).1
  · have hle := (List.filter_sublist (p := fun q : Phrase => decide (q.id ≠ p.id)) (l := ps)).length_le
    rw [hperm.length_eq, List.length_cons]
    by_cases hnew : findPhrase p.id ps = none
    · have : ps.length < maxPhrases := Nat.not_le.mp fun hfull => hroom ⟨hnew, hfull⟩
      omega
    · have hshorter : (ps.filter fun q => q.id ≠ p.id).length ≠ ps.length := fun heq =>
        hnew (findPhrase_eq_none_iff.mpr (List.filter_sublist.eq_of_length heq))
      omega

theorem setPhraseBody_phrasesOk {s : State} (id : Nat) (x y z : List Byte) (h : PhrasesOk s.phrases) :
    PhrasesOk (setPhraseBody id x y z s).1.phrases := by
  cases hok : phraseOk id x y z with
  | false => rw [setPhraseBody_badField hok]; exact h
  | true =>
    by_cases hroom : findPhrase id s.phrases = none ∧ maxPhrases ≤ s.phrases.length
    · rw [setPhraseBody_tableFull hok hroom.1 hroom.2]; exact h
    · by_cases hcells : cellsUsed s.phrases + phraseCells ⟨id, x, y, z⟩ - cellsOf id s.phrases ≤ maxCells
      · rw [setPhraseBody_stored hok hroom hcells]
        exact putPhrase_phrasesOk h (phraseOk_of_check hok) hroom hcells
      · rw [setPhraseBody_noSpace hok hroom (Nat.not_le.mp hcells)]; exact h

theorem dropPhrase_phrasesOk {ps : List Phrase} (h : PhrasesOk ps) (id : Nat) : PhrasesOk (dropPhrase id ps) := by
  obtain ⟨hord, hall, hlen, hcells⟩ := h
  refine ⟨hord.sublist List.filter_sublist, fun p hp => hall p (List.mem_filter.mp hp).1, List.filter_sublist.length_le.trans hlen, ?_⟩
  have := cellsUsed_filter_add id ps
  rw [dropPhrase_eq_filter]
  omega

theorem dropPhraseBody_phrasesOk {s : State} (id : Nat) (h : PhrasesOk s.phrases) : PhrasesOk (dropPhraseBody id s).1.phrases := by
  unfold dropPhraseBody
  split
  · exact h
  · split
    · exact h
    · exact dropPhrase_phrasesOk h id

theorem commandBody_phrasesOk (c : Instr) {s : State} (h : Inv s) : PhrasesOk (commandBody c s).1.phrases := by
  have hp := h.phrasesOk
  cases c with
  | setPhrase v id x y z => exact setPhraseBody_phrasesOk _ _ _ _ hp
  | dropPhrase v id => exact dropPhraseBody_phrasesOk _ hp
  | _ => simpa [commandBody] using hp

theorem step_phrasesOk {s t : State} (hs : Inv s) (h : step s = .next t) : PhrasesOk t.phrases := by
  refine step_keeps (P := fun s => PhrasesOk s.phrases) (fun s hs => hs.phrasesOk) (fun v k q l a s h => by simpa using h)
    (fun c s hs => commandBody_phrasesOk c hs) (fun b s h => by simpa using h) (fun w s h => by simpa using h)
    (fun s h => by simpa using h) (fun bs x s h => h) (fun c s hc hs => ?_) (fun c s hc hs => ?_) (fun c s hc hs => ?_) hs h
  · rw [lineEvent_frame hc]; exact hs.phrasesOk
  · rw [chainEvent_frame hc]; exact hs.phrasesOk
  · rw [lightEvent_frame hc]; exact hs.phrasesOk

/-! ### The light meter (R145 to R151) -/

/-- A target lies no higher than the highest B of the curve. -/
theorem target_le {c n : Nat} {curve : List Point} (hord : curve.Pairwise fun p q => p.c < q.c) (hb : ∀ p ∈ curve, p.b ≤ n) :
    target c curve ≤ n := by
  induction curve with
  | nil => exact Nat.zero_le _
  | cons p ps ih =>
    obtain ⟨hp, hps⟩ := List.forall_mem_cons.mp hb
    cases ps with
    | nil => exact hp
    | cons q qs =>
      have hpq : p.c < q.c := (List.pairwise_cons.mp hord).1 q List.mem_cons_self
      have hq : q.b ≤ n := hps q List.mem_cons_self
      rcases lt_or_ge c q.c with hc | hc
      · rcases le_total c p.c with hc' | hc'
        · rw [target_of_le_head hc']; exact hp
        · rw [target_eq_interpolate hc' hc]
          have := (interpolate_mem hc' hc).2
          omega
      · rw [target_of_second_le hpq hc]
        exact ih (List.pairwise_cons.mp hord).2 hps

theorem clampTo_mem {lo hi : Nat} (h : lo ≤ hi) (n : Nat) : lo ≤ clampTo lo hi n ∧ clampTo lo hi n ≤ hi := by
  simp only [clampTo]; omega

theorem meterStep_lightOk {l : Light} (h : LightOk l) (count : Nat) : LightOk (meterStep count l) := by
  obtain ⟨hlim, hmax, happ, happ', hgate, hlast, hrun, htarget, hgoal, hfixed, hhyst, hslew, hslew', hlen, hord, hpts⟩ := id h
  have ht : target count l.curve ≤ 255 := target_le hord fun p hp => (hpts p hp).2
  by_cases hok : l.sensor = .ok
  · cases hm : l.mode with
    | fixed =>
      rw [meterStep_fixed hok hm]
      exact ⟨hlim, hmax, happ, happ', hgate, hlast, hrun, ht, hgoal, hfixed, hhyst, hslew, hslew', hlen, hord, hpts⟩
    | auto =>
      rw [meterStep_auto hok hm]
      have hg : goalAfter l.hyst (target count l.curve) l.goal ≤ 255 := by
        unfold goalAfter
        split
        · exact ht
        · exact hgoal
      have hclamp := clampTo_mem hlim (slewToward l.slew (goalAfter l.hyst (target count l.curve) l.goal) l.applied)
      exact ⟨hlim, hmax, hclamp.1, hclamp.2, hgate, hlast, hrun, ht, hg, hfixed, hhyst, hslew, hslew', hlen, hord, hpts⟩
  · rw [meterStep_not_ok hok]
    exact h

theorem windowLight_lightOk {l : Light} (h : LightOk l) : LightOk (windowLight l) := by
  refine meterStep_lightOk ?_ _
  obtain ⟨hlim, hmax, happ, happ', hgate, -, -, hrest⟩ := h
  refine ⟨hlim, hmax, happ, happ', Nat.zero_le _, hgate, ?_, hrest⟩
  simp only [windowTaken, zeroRunAfter, satInc]
  split <;> omega

theorem lightEvent_lightOk {c : Instr} (hc : family c = .light) {s : State} (h : LightOk s.light) : LightOk (stateAfter c s).light := by
  cases c <;> cases hc
  case luxInPulse =>
    obtain ⟨hlim, hmax, happ, happ', -, hrest⟩ := h
    exact ⟨hlim, hmax, happ, happ', Nat.min_le_left _ _, hrest⟩
  case lightWindowEnd =>
    have hlight : (windowEnd s).light = windowLight s.light := by simp [windowEnd_eq]
    exact hlight ▸ windowLight_lightOk h

theorem setBrightnessBody_lightOk {s : State} (x : RawBrightness) (h : LightOk s.light) : LightOk (setBrightnessBody x s).1.light := by
  unfold setBrightnessBody
  split
  · exact h
  · next m _ =>
    have hset : LightOk (brightnessSet m x s.light) := by
      obtain ⟨-, -, -, -, hgate, hlast, hrun, htarget, hgoal, -, -, -, -, hcurve⟩ := h
      have := byte_toNat_le x.bmax
      have := byte_toNat_le x.slew
      rw [brightnessSet_eq]
      refine ⟨?_, ?_, ?_, ?_, hgate, hlast, hrun, htarget, hgoal, byte_toNat_le _, ?_, ?_, ?_, hcurve⟩ <;> dsimp only <;> omega
    simpa [setLight] using hset

theorem setLightCurveBody_lightOk {s : State} (x : RawCurve) (h : LightOk s.light) : LightOk (setLightCurveBody x s).1.light := by
  by_cases hasc : (rawPoints x).Pairwise fun p q => p.c.toNat < q.c.toNat
  · rw [setLightCurveBody_stored hasc]
    obtain ⟨h1, h2, h3, h4, h5, h6, h7, h8, h9, h10, h11, h12, h13, -⟩ := h
    refine ⟨h1, h2, h3, h4, h5, h6, h7, h8, h9, h10, h11, h12, h13, rfl, List.pairwise_map.mpr hasc, fun p hp => ?_⟩
    obtain ⟨q, -, rfl⟩ := List.mem_map.mp hp
    exact ⟨Nat.le_of_lt_succ q.c.isLt, byte_toNat_le _⟩
  · rw [setLightCurveBody_badField hasc]
    exact h

theorem commandBody_lightOk (c : Instr) {s : State} (h : Inv s) : LightOk (commandBody c s).1.light := by
  have hl := h.lightOk
  cases c with
  | setBrightness v x => exact setBrightnessBody_lightOk x hl
  | setLightCurve v x => exact setLightCurveBody_lightOk x hl
  | _ => simpa [commandBody] using hl

theorem step_lightOk {s t : State} (hs : Inv s) (h : step s = .next t) : LightOk t.light := by
  refine step_keeps (P := fun s => LightOk s.light) (fun s hs => hs.lightOk) (fun v k q l a s h => by simpa using h)
    (fun c s hs => commandBody_lightOk c hs) (fun b s h => by simpa using h) (fun w s h => by simpa using h)
    (fun s h => by simpa using h) (fun bs x s h => h) (fun c s hc hs => ?_) (fun c s hc hs => ?_)
    (fun c s hc hs => lightEvent_lightOk hc hs.lightOk) hs h
  · rw [lineEvent_frame hc]; exact hs.lightOk
  · rw [chainEvent_frame hc]; exact hs.lightOk

end Sys2Proof.Machine

end

/-! What every step keeps of the notice queue and the signline, and with the other stores, O59. -/

section

namespace Sys2Proof.Machine

open Sys2Proof

/-! ### The notice queue (R174, R176) -/

theorem offerTo_noticesOk {q : Notices} (h : NoticesOk q) (k : NoticeKind) (arg uptime : Nat) : NoticesOk (offerTo q k arg uptime) := by
  obtain ⟨hlen, hord, hall⟩ := id h
  unfold offerTo
  split
  · exact h
  · split
    · next hroom =>
      refine ⟨by simpa using hroom, ?_, fun n hn => ?_⟩
      · exact List.pairwise_append.mpr ⟨hord, List.pairwise_singleton _ _, fun a ha b hb => List.mem_singleton.mp hb ▸ (hall a ha).1⟩
      · rcases List.mem_append.mp hn with hn | hn
        · exact ⟨Nat.lt_succ_of_lt (hall n hn).1, (hall n hn).2⟩
        · rw [List.mem_singleton.mp hn]
          exact ⟨Nat.lt_succ_self _, Nat.mod_lt _ (by decide)⟩
    · exact h

theorem offer_noticesOk {s : State} (h : NoticesOk s.notices) (k : NoticeKind) (arg : Nat) : NoticesOk (offer k arg s).notices :=
  offerTo_noticesOk h k arg _

theorem offerAll_noticesOk {s : State} (h : NoticesOk s.notices) (ks : List (NoticeKind × Nat)) : NoticesOk (offerAll ks s).notices := by
  induction ks generalizing s with
  | nil => exact h
  | cons k ks ih => exact ih (offer_noticesOk h k.1 k.2)

theorem finish_noticesOk {s : State} (v : Via) (k : Byte) (q : Nat) (l : Bool) (a : Answer) (h : NoticesOk s.notices) :
    NoticesOk (finish v k q l a s).notices := by
  rcases finish_notices v k q l a s with hn | ⟨code, hn⟩ <;> rw [hn]
  · exact h
  · exact offerTo_noticesOk h _ _ _

section

variable {s : State} (h : NoticesOk s.notices)

include h

theorem expire_noticesOk (cause : Nat) : NoticesOk (expire cause s).notices := by simpa [expire] using offerTo_noticesOk h _ _ _

theorem goodClose_noticesOk : NoticesOk (goodClose s).notices := by
  unfold goodClose
  split
  · exact h
  · simpa using offerTo_noticesOk h _ _ _
  · exact h

theorem badClose_noticesOk : NoticesOk (badClose s).notices := by
  unfold badClose
  split
  · exact expire_noticesOk h _
  · exact h

theorem batchCloseBody_noticesOk (tag : Byte) : NoticesOk (batchCloseBody tag s).1.notices := by
  unfold batchCloseBody
  split
  · exact badClose_noticesOk h
  · split
    · refine goodClose_noticesOk (offerAll_noticesOk ?_ _)
      exact h
    · exact badClose_noticesOk h

theorem batchOpenBody_noticesOk (tag mode : Byte) : NoticesOk (batchOpenBody tag mode s).1.notices := by
  unfold batchOpenBody
  dsimp only
  split
  · exact h
  · split
    · exact h
    · split
      · exact h
      · exact offer_noticesOk h _ _

theorem supTick_noticesOk : NoticesOk (supTick s).notices := by
  unfold supTick
  split
  · exact h
  · split
    · exact expire_noticesOk h _
    · exact h

theorem batchTick_noticesOk : NoticesOk (batchTick s).notices := by
  unfold batchTick
  split
  · exact h
  · split
    · exact offer_noticesOk h _ _
    · exact h

theorem lapse_noticesOk (cause : Nat) : NoticesOk (lapse cause s).notices := by simpa [lapse] using offerTo_noticesOk h _ _ _

theorem clockTick_noticesOk : NoticesOk (clockTick s).notices := by
  unfold clockTick
  split
  · exact h
  · dsimp only
    split
    · exact offer_noticesOk h _ _
    · split
      · refine lapse_noticesOk ?_ _
        exact h
      · exact h

theorem clockSubTick_noticesOk (w : Bool) : NoticesOk (clockSubTick w s).notices := by
  unfold clockSubTick
  split
  · exact h
  · dsimp only
    split
    · refine lapse_noticesOk ?_ _
      exact h
    · exact h

theorem applyMark_noticesOk (day m : Nat) : NoticesOk (applyMark day m s).1.notices := by
  unfold applyMark
  split
  · exact h
  · split
    · exact offer_noticesOk h _ _
    · split
      · unfold markAcquiring
        split
        · split
          · exact offer_noticesOk h _ _
          · exact h
        · exact h
      · exact h
      · unfold markLocked
        split
        · exact h
        · exact offer_noticesOk h _ _

theorem timeMarkBody_noticesOk (day sec six : Nat) : NoticesOk (timeMarkBody day sec six s).1.notices := by
  unfold timeMarkBody
  split
  · exact h
  · simpa using applyMark_noticesOk (s := setClock { s.clock with age := 0 } s) h _ _

theorem completeEnumeration_noticesOk (c : Nat) : NoticesOk (completeEnumeration c s).notices := by
  unfold completeEnumeration
  dsimp only
  split <;> exact offer_noticesOk h _ _

theorem giveUp_noticesOk (p : Pos) : NoticesOk (giveUp p s).notices := by
  unfold giveUp
  dsimp only
  split
  · exact offer_noticesOk (by simpa using h) _ _
  · simpa using h

theorem frameFail_noticesOk (o : Outstanding) (rest : List Item) (g : PosSet) : NoticesOk (frameFail o rest g s).notices := by
  unfold frameFail
  dsimp only
  split
  · exact h
  · simpa using giveUp_noticesOk h _

theorem recover_noticesOk (p : Pos) : NoticesOk (recover p s).notices := offer_noticesOk (by simpa using h) _ _

theorem pushOverlayBody_noticesOk (raw : RawOverlay) : NoticesOk (pushOverlayBody raw s).1.notices := by
  unfold pushOverlayBody
  split
  · exact h
  · rw [overlayRender_notices]
    unfold offerDisplaced
    split
    · exact h
    · exact offer_noticesOk h _ _

theorem overlayTick_noticesOk : NoticesOk (overlayTick s).notices := by
  simp only [overlayTick, apply_ite State.notices, overlayRender_notices, ite_self]
  refine offerAll_noticesOk ?_ _
  exact h

theorem enableNoticesBody_noticesOk (m : BitVec 16) : NoticesOk (enableNoticesBody m s).1.notices := by
  unfold enableNoticesBody
  split <;> exact h

theorem collect_noticesOk (serials : List Nat) (overflow : Bool) (sets : Nat) : NoticesOk (collect serials overflow sets s.notices) := by
  obtain ⟨hlen, hord, hall⟩ := h
  exact ⟨List.filter_sublist.length_le.trans hlen, hord.sublist List.filter_sublist, fun n hn => hall n (List.mem_filter.mp hn).1⟩

theorem actOnSent_noticesOk (c : Carried) : NoticesOk (actOnSent c s).notices := by
  cases c with
  | status serials overflow sets trunc crc busy => exact collect_noticesOk h _ _ _
  | _ => exact h

theorem handOver_noticesOk (lost : Bool) (r : Reply) : NoticesOk (handOver lost r s).notices := by simpa using h

theorem storeFrame_noticesOk (f : Slot) : NoticesOk (storeFrame f s).notices := by
  unfold storeFrame
  split
  · exact h
  · unfold overrun
    dsimp only
    split
    · refine handOver_noticesOk (offer_noticesOk ?_ _ _) _ _
      exact h
    · exact offer_noticesOk h _ _

theorem gather_noticesOk (b : Byte) (got : List Byte) : NoticesOk (gather b got s).notices := by
  unfold gather
  dsimp only
  split
  · exact h
  · split
    · split
      · unfold judgeFrame
        split
        · exact h
        · split
          · exact h
          · split
            · exact h
            · refine storeFrame_noticesOk ?_ _
              exact h
      · exact h
    · exact h

theorem takeCharacter_noticesOk (b : Byte) (parity stop : Bool) : NoticesOk (takeCharacter b parity stop s).notices := by
  unfold takeCharacter
  dsimp only
  split
  · exact h
  · exact h
  · split
    · exact h
    · split <;> exact h
  · split
    · exact h
    · exact gather_noticesOk h _ _

theorem linkReset_noticesOk : NoticesOk (linkReset s).notices := by
  unfold linkReset
  refine offer_noticesOk ?_ _ _
  have hrest : ∀ t : State, t.notices = s.notices → NoticesOk (batchLinkReset t).notices := by
    intro t ht
    unfold batchLinkReset
    split
    · exact ht ▸ h
    · split
      · exact ht ▸ h
      · exact offer_noticesOk (ht ▸ h) _ _
  exact hrest _ (by simp)

theorem checkTaken_noticesOk (f : Slot) : NoticesOk (checkTaken f s).notices := by
  unfold checkTaken
  split
  · exact h
  · split
    · exact finish_noticesOk _ _ _ _ _ h
    · exact h

end

theorem commandBody_noticesOk (c : Instr) {s : State} (h : Inv s) : NoticesOk (commandBody c s).1.notices := by
  have hn := h.noticesOk
  cases c with
  | timeMark v d n x => exact timeMarkBody_noticesOk hn _ _ _
  | batchOpen v t m => exact batchOpenBody_noticesOk hn _ _
  | batchClose v t => exact batchCloseBody_noticesOk hn _
  | pushOverlay v o => exact pushOverlayBody_noticesOk hn _
  | enableNotices v m => exact enableNoticesBody_noticesOk hn _
  | _ => simpa [commandBody] using hn

theorem blockTick_noticesOk (b : TickBlock) {s : State} (h : NoticesOk s.notices) : NoticesOk (blockTick b s).notices := by
  cases b with
  | clock => exact clockTick_noticesOk h
  | batch => exact batchTick_noticesOk h
  | supervisor => exact supTick_noticesOk h
  | overlays => exact overlayTick_noticesOk h
  | _ => simpa [blockTick] using h

theorem lineEvent_noticesOk {c : Instr} (hc : family c = .line) {s : State} (h : NoticesOk s.notices) :
    NoticesOk (stateAfter c s).notices := by
  cases c <;> cases hc <;>
    simp only [stateAfter, exec, execReceiveCharacter, execLineIdleSeen, execFrameGap, execLineBreak, execLinkReset, execFrameComplete,
      execRequestTake, execReplyStart, execReplyWithheld, execReplySent]
  case receiveCharacter =>
    split
    · exact takeCharacter_noticesOk (by simpa using h) _ _ _
    · exact h
  case frameComplete =>
    split
    · split
      · exact gather_noticesOk (by simpa using h) _ _
      · exact h
    · exact h
  case linkReset =>
    split
    · exact h
    · split
      · exact linkReset_noticesOk (by simpa using h)
      · split
        · exact h
        · exact linkReset_noticesOk h
  case requestTake =>
    split
    · split
      · exact h
      · refine checkTaken_noticesOk ?_ _
        exact h
    · exact h
  case replySent =>
    split
    · exact h
    · refine actOnSent_noticesOk ?_ _
      exact h
  all_goals (repeat' split) <;> simpa using h

theorem chainEvent_noticesOk {c : Instr} (hc : family c = .chain) {s : State} (h : NoticesOk s.notices) :
    NoticesOk (stateAfter c s).notices := by
  cases c <;> cases hc <;>
    simp only [stateAfter, exec, execProbeRoundStart, execEnumerationStart, execEnumerationComplete, execEnumerationTimeout,
      execCodingComplete, execDeliveryStart, execAnswerAck, execAnswerNak, execAnswerTimeout, execDeliveryEnd]
  case enumerationComplete =>
    split
    · split
      · split
        · exact h
        · simpa using completeEnumeration_noticesOk h _
      · exact h
    · exact h
  case enumerationTimeout =>
    split
    · simpa using completeEnumeration_noticesOk h _
    · exact h
  case answerAck =>
    split
    · split <;> simpa using h
    · split
      · simpa using recover_noticesOk h _
      · exact h
    · exact h
  case answerNak =>
    split
    · split
      · simpa using frameFail_noticesOk (s := countNak _ s) (by simpa using h) _ _ _
      · exact h
    · split <;> simpa using h
    · exact h
  case answerTimeout =>
    split
    · simpa using frameFail_noticesOk (s := countTimeout _ s) (by simpa using h) _ _ _
    · split <;> simpa using h
    · exact h
  all_goals (repeat' split) <;> simpa using h

theorem lightEvent_noticesOk {c : Instr} (hc : family c = .light) {s : State} (h : NoticesOk s.notices) :
    NoticesOk (stateAfter c s).notices := by
  cases c <;> cases hc
  case luxInPulse => exact h
  case lightWindowEnd =>
    change NoticesOk (windowEnd s).notices
    simp only [windowEnd, handBrightness_notices]
    refine offerAll_noticesOk ?_ _
    exact h

theorem step_noticesOk {s t : State} (hs : Inv s) (h : step s = .next t) : NoticesOk t.notices := by
  refine step_keeps (P := fun s => NoticesOk s.notices) (fun s hs => hs.noticesOk) (fun v k q l a s h => finish_noticesOk _ _ _ _ _ h)
    (fun c s hs => commandBody_noticesOk c hs) (fun b s h => blockTick_noticesOk b h) (fun w s h => clockSubTick_noticesOk h w)
    (fun s h => by simpa using h) (fun bs x s h => h) (fun c s hc hs => lineEvent_noticesOk hc hs.noticesOk)
    (fun c s hc hs => chainEvent_noticesOk hc hs.noticesOk) (fun c s hc hs => lightEvent_noticesOk hc hs.noticesOk) hs h

/-! ### The signline (R156, R159, R164) -/

/-- The receiver in another state; where that gathers a frame, the frame is not complete. -/
theorem LineOk.setRx {l : Line} (h : LineOk l) {r : Receiver} (hr : ∀ got, r = .inFrame got → GatheringOk got) :
    LineOk { l with rx := r } := by
  obtain ⟨h1, h2, h3, h4, h5, h6, h7, h8, -⟩ := h
  exact ⟨h1, h2, h3, h4, h5, h6, h7, h8, hr⟩

theorem LineOk.setWaiting {l : Line} (h : LineOk l) {ws : List Reply} (hlen : ws.length ≤ maxWaiting)
    (hord : ws.Pairwise fun a b => a.seq ≤ b.seq) : LineOk { l with waiting := ws } := by
  obtain ⟨-, -, hrest⟩ := h
  exact ⟨hlen, hord, hrest⟩

/-- The first of the replies waiting leaves. -/
theorem LineOk.dropFirst {l : Line} (h : LineOk l) {r : Reply} {rest : List Reply} (hw : l.waiting = r :: rest) :
    LineOk { l with waiting := rest } := by
  obtain ⟨hlen, hord, -⟩ := id h
  rw [hw] at hlen hord
  exact h.setWaiting (Nat.le_of_succ_le hlen) (List.pairwise_cons.mp hord).2

/-- The counts at other values within their range. -/
theorem LineOk.setCounts {l : Line} (h : LineOk l) {trunc crc busy : Nat} (ht : trunc ≤ 255) (hc : crc ≤ 255) (hb : busy ≤ 255) :
    LineOk { l with trunc := trunc, crc := crc, busy := busy } := by
  obtain ⟨h1, h2, h3, h4, h5, -, -, -, h9⟩ := h
  exact ⟨h1, h2, h3, h4, h5, ht, hc, hb, h9⟩

theorem satInc_le (m n : Nat) : satInc m n ≤ m := Nat.min_le_left _ _

theorem handOver_lineOk {s : State} (h : LineOk s.line) (lost : Bool) (r : Reply) : LineOk (handOver lost r s).line := by
  obtain ⟨ws, hline, hlen, hord⟩ := handOver_line lost r s
  rw [hline]
  exact h.setWaiting (hlen h.1) (hord h.2.1)

theorem finish_lineOk {s : State} (v : Via) (k : Byte) (q : Nat) (l : Bool) (a : Answer) (h : LineOk s.line) :
    LineOk (finish v k q l a s).line := by
  unfold finish
  split
  · exact handOver_lineOk h _ _
  · split
    · simpa using h
    · exact h

theorem abandon_lineOk {s : State} (h : LineOk s.line) {after : Receiver} (ha : ∀ got, after ≠ .inFrame got) :
    LineOk (abandon after s).line :=
  (h.setRx fun got hgot => absurd hgot (ha got)).setCounts (satInc_le _ _) h.2.2.2.2.2.2.1 h.2.2.2.2.2.2.2.1

theorem overrun_lineOk {s : State} (h : LineOk s.line) (f : Slot) : LineOk (overrun f s).line := by
  have hcounted : LineOk { s.line with busy := satInc 255 s.line.busy, seq := s.line.seq + 1 } :=
    h.setCounts h.2.2.2.2.2.1 h.2.2.2.2.2.2.1 (satInc_le _ _)
  unfold overrun
  dsimp only
  split
  · refine handOver_lineOk ?_ _ _
    exact hcounted
  · exact hcounted

theorem storeFrame_lineOk {s : State} (h : LineOk s.line) (f : Slot) : LineOk (storeFrame f s).line := by
  unfold storeFrame
  split
  · obtain ⟨h1, h2, -, hrest⟩ := h
    exact ⟨h1, h2, Nat.mod_lt _ (by decide), hrest⟩
  · exact overrun_lineOk h f

theorem judgeFrame_lineOk {s : State} (h : LineOk s.line) (g : Gathered) : LineOk (judgeFrame g s).line := by
  unfold judgeFrame
  split
  · exact h.setCounts h.2.2.2.2.2.1 (satInc_le _ _) h.2.2.2.2.2.2.2.1
  · split
    · exact h
    · split
      · exact h
      · exact storeFrame_lineOk h _

/-- A good character short of the end of a frame keeps the frame in progress as one. -/
theorem gatheringOk_append {got : List Byte} (h : GatheringOk got) {b : Byte} (hlen : ¬ (got.length = 3 ∧ maxPayload < b.toNat))
    (hshort : frameSize (got ++ [b]) ≠ some (got ++ [b]).length) : GatheringOk (got ++ [b]) := by
  intro n hn
  rw [List.length_append, List.length_singleton]
  rcases lt_trichotomy got.length 3 with hlt | heq | hgt
  · rw [List.getElem?_eq_none (by simpa using hlt)] at hn
    cases hn
  · obtain rfl : b = n := by simpa [List.getElem?_append, heq] using hn
    exact ⟨Nat.not_lt.mp fun hbig => hlen ⟨heq, hbig⟩, by omega⟩
  · rw [List.getElem?_append_left hgt] at hn
    obtain ⟨hmax, hopen⟩ := h n hn
    have hend : 4 + n.toNat + 2 ≠ got.length + 1 := by
      simpa [frameSize, List.getElem?_append_left hgt, hn] using hshort
    exact ⟨hmax, by omega⟩

theorem gather_lineOk {s : State} (h : LineOk s.line) (b : Byte) {got : List Byte} (hgot : GatheringOk got) :
    LineOk (gather b got s).line := by
  unfold gather
  dsimp only
  split
  · exact abandon_lineOk h (by simp)
  · next hlen =>
    split
    · split
      · exact judgeFrame_lineOk (h.setRx (r := .hunt) (by simp)) _
      · exact h
    · next hshort => exact h.setRx fun _ heq => Receiver.inFrame.inj heq ▸ gatheringOk_append hgot hlen hshort

theorem takeCharacter_lineOk {s : State} (h : LineOk s.line) (b : Byte) (parity stop : Bool) :
    LineOk (takeCharacter b parity stop s).line := by
  unfold takeCharacter
  dsimp only
  split
  · exact h
  · exact h
  · split
    · exact h.setRx (by simp)
    · split
      · exact h.setRx fun _ heq => Receiver.inFrame.inj heq ▸ by simp [GatheringOk]
      · exact h.setRx (by simp)
  · next got hrx =>
    split
    · exact abandon_lineOk h (by simp)
    · exact gather_lineOk h b (h.2.2.2.2.2.2.2.2 got hrx)

theorem breakOver_lineOk {s : State} (h : LineOk s.line) : LineOk (breakOver s).line := h

theorem beginBreak_lineOk {s : State} (h : LineOk s.line) : LineOk (beginBreak s).line := by
  unfold beginBreak
  dsimp only
  split
  · exact abandon_lineOk (after := .hunt) h (by simp)
  · exact h.setRx (r := .hunt) (by simp)

theorem linkReset_lineOk {s : State} (h : LineOk s.line) : LineOk (linkReset s).line := by
  obtain ⟨-, -, h3, h4, h5, h6, h7, h8, -⟩ := h
  simp only [linkReset, offer_line, batchLinkReset_line, setLine_line, dropReplies_line]
  exact ⟨Nat.zero_le _, .nil, h3, h4, h5, h6, h7, h8, by simp⟩

theorem checkTaken_lineOk {s : State} (h : LineOk s.line) (f : Slot) : LineOk (checkTaken f s).line := by
  unfold checkTaken
  split
  · exact h
  · split
    · exact finish_lineOk _ _ _ _ _ h
    · exact h

theorem actOnSent_lineOk {s : State} (h : LineOk s.line) (c : Carried) : LineOk (actOnSent c s).line := by
  cases c with
  | status serials overflow sets trunc crc busy =>
    obtain ⟨-, -, -, -, -, ht, hc, hb, -⟩ := id h
    exact h.setCounts ((Nat.sub_le _ _).trans ht) ((Nat.sub_le _ _).trans hc) ((Nat.sub_le _ _).trans hb)
  | _ => exact h

/-- A group address as SET_GROUPS accepts it (R157). -/
theorem readGroup_range {b : Byte} {g : Option Nat} (h : readGroup b = some g) {n : Nat} (hn : g = some n) :
    n = b.toNat ∧ 64 ≤ n ∧ n ≤ 126 := by
  unfold readGroup at h
  split at h
  · cases h; cases hn
  · split at h <;> cases h
    next hrange =>
    cases hn
    exact ⟨rfl, hrange⟩

theorem setGroupsBody_lineOk {s : State} (h : LineOk s.line) (a b : Byte) : LineOk (setGroupsBody a b s).1.line := by
  unfold setGroupsBody
  split
  · next ga gb ha hb =>
    split
    · exact h
    · next hne =>
      obtain ⟨h1, h2, h3, -, -, h6⟩ := h
      refine ⟨h1, h2, h3, fun g hg => hg.elim (fun hg => (readGroup_range ha hg).2) fun hg => (readGroup_range hb hg).2, ?_, h6⟩
      intro g hga hgb
      obtain ⟨hA, hlow, -⟩ := readGroup_range ha hga
      obtain ⟨hB, -⟩ := readGroup_range hb hgb
      refine hne ⟨BitVec.eq_of_toNat_eq (hA ▸ hB), fun hzero => ?_⟩
      rw [hA, hzero] at hlow
      exact absurd hlow (by decide)
  · exact h

theorem setReplyModeBody_lineOk {s : State} (h : LineOk s.line) (m : Byte) : LineOk (setReplyModeBody m s).1.line := by
  unfold setReplyModeBody
  split
  · exact h
  · simp only [setLine_line, dropReplies_line]
    exact h.setWaiting (ws := []) (Nat.zero_le _) .nil
  · exact h

theorem commandBody_lineOk (c : Instr) {s : State} (h : Inv s) : LineOk (commandBody c s).1.line := by
  have hl := h.lineOk
  cases c with
  | setGroups v a b => exact setGroupsBody_lineOk hl a b
  | setReplyMode v m => exact setReplyModeBody_lineOk hl m
  | _ => simpa [commandBody] using hl

theorem lineEvent_lineOk {c : Instr} (hc : family c = .line) {s : State} (h : LineOk s.line) : LineOk (stateAfter c s).line := by
  cases c <;> cases hc <;>
    simp only [stateAfter, exec, execReceiveCharacter, execLineIdleSeen, execFrameGap, execLineBreak, execLinkReset, execFrameComplete,
      execRequestTake, execReplyStart, execReplyWithheld, execReplySent]
  case receiveCharacter =>
    split
    · exact takeCharacter_lineOk (breakOver_lineOk h) _ _ _
    · exact h
  case lineIdleSeen =>
    split
    · split
      · exact (breakOver_lineOk h).setRx (by simp)
      · exact (breakOver_lineOk h).setRx (by simp)
      · exact h
    · exact h
  case frameGap =>
    split
    · split
      · exact abandon_lineOk h (by simp)
      · exact h
    · exact h
  case lineBreak =>
    split
    · exact beginBreak_lineOk h
    · exact h
  case frameComplete =>
    split
    · next got hrx =>
      split
      · exact gather_lineOk (breakOver_lineOk h) _ (h.2.2.2.2.2.2.2.2 got hrx)
      · exact h
    · exact h
  case linkReset =>
    split
    · exact h
    · split
      · exact linkReset_lineOk (beginBreak_lineOk h)
      · split
        · exact h
        · exact linkReset_lineOk h
  case requestTake =>
    split
    · split
      · exact h
      · refine checkTaken_lineOk ?_ _
        exact h
    · exact h
  case replyStart =>
    split
    · exact h
    · next r rest hw =>
      split
      · exact h.dropFirst hw
      · exact h
  case replyWithheld =>
    split
    · exact h
    · next r rest hw => simpa using h.dropFirst hw
  case replySent =>
    split
    · exact h
    · refine actOnSent_lineOk ?_ _
      exact h.setRx (r := .hunt) (by simp)

theorem step_lineOk {s t : State} (hs : Inv s) (h : step s = .next t) : LineOk t.line := by
  refine step_keeps (P := fun s => LineOk s.line) (fun s hs => hs.lineOk) (fun v k q l a s h => finish_lineOk _ _ _ _ _ h)
    (fun c s hs => commandBody_lineOk c hs) (fun b s h => by simpa using h) (fun w s h => by simpa using h)
    (fun s h => by simpa using h) (fun bs x s h => h) (fun c s hc hs => lineEvent_lineOk hc hs.lineOk)
    (fun c s hc hs => ?_) (fun c s hc hs => ?_) hs h
  · rw [chainEvent_frame hc]; exact hs.lineOk
  · rw [lightEvent_frame hc]; exact hs.lineOk

/-- Settles O59, store by store: what each step keeps of each. -/
theorem stepKeepsStores : Obligations.StepKeepsStores := fun _ _ hs h =>
  ⟨step_overlaysOk hs h, step_phrasesOk hs h, step_fontsOk hs h, step_lightOk hs h, step_noticesOk hs h, step_lineOk hs h⟩

end Sys2Proof.Machine

end

/-! The layout of the board: what an image drawn leaves of it, what a page choice and a building give it, and that every step keeps it. -/

section

namespace Sys2Proof.Machine

open Sys2Proof

/-! ### What drawing leaves of the board -/

/-- The board without what drawing an image touches. -/
def layoutOf (b : Board) : Board := { b with canvas := [], lines := none, pending := false, rendered := false }

@[simp] theorem layoutOf_paint (c : Canvas) (s : State) : layoutOf (paint c s).board = layoutOf s.board := rfl

@[simp] theorem layoutOf_renderPage (s : State) : layoutOf (renderPage s).board = layoutOf s.board := by
  unfold renderPage
  (repeat' split) <;> rfl

@[simp] theorem layoutOf_performRender (s : State) : layoutOf (performRender s).board = layoutOf s.board := by
  unfold performRender
  split <;> simp

@[simp] theorem layoutOf_requestRender (s : State) : layoutOf (requestRender s).board = layoutOf s.board := by
  unfold requestRender
  split
  · rfl
  · simp

/-- The stripes of a frame coded from the canvas, and the frame handed over. -/
def storeStripes (r : FrameRecord) (s : State) : State :=
  { s with coder := { s.coder with state := .delivering, stripes := codeFrame s.board.canvas r } }

/-- A pending render performed. -/
def renderPending (s : State) : State := if s.board.pending = true then performRender s else s

/-- A handed frame takes a chain that is IDLE with no round due. -/
def deliverIfFree (s : State) : State := if s.chain.work = .idle ∧ s.chain.roundDue = false then beginDelivery s else s

theorem completeCoding_none {s : State} (h : s.coder.record = none) : completeCoding s = s := by simp [completeCoding, h]

/-- Coding completes in three parts (R119). -/
theorem completeCoding_some {s : State} {r : FrameRecord} (h : s.coder.record = some r) :
    completeCoding s = deliverIfFree (renderPending (storeStripes r s)) := by
  unfold completeCoding
  split
  · next hnone => cases hnone.symm.trans h
  · next hsome => cases hsome.symm.trans h; rfl

@[simp] theorem deliverIfFree_board (s : State) : (deliverIfFree s).board = s.board := by
  unfold deliverIfFree
  split <;> simp

@[simp] theorem layoutOf_renderPending (s : State) : layoutOf (renderPending s).board = layoutOf s.board := by
  unfold renderPending
  split <;> simp

@[simp] theorem layoutOf_completeCoding (s : State) : layoutOf (completeCoding s).board = layoutOf s.board := by
  cases hr : s.coder.record with
  | none => rw [completeCoding_none hr]
  | some r =>
    rw [completeCoding_some hr, deliverIfFree_board, layoutOf_renderPending]
    rfl

@[simp] theorem layoutOf_startFrame (s : State) : layoutOf (startFrame s).board = layoutOf s.board := by
  unfold startFrame
  dsimp only
  split <;> simp

@[simp] theorem layoutOf_settle (s : State) : layoutOf (settle s).board = layoutOf s.board := by
  unfold settle
  split <;> simp

@[simp] theorem layoutOf_overlayRender (s : State) : layoutOf (overlayRender s).board = layoutOf s.board := by
  unfold overlayRender
  split <;> simp

@[simp] theorem layoutOf_handBrightness (n : Nat) (s : State) : layoutOf (handBrightness n s).board = layoutOf s.board := by
  unfold handBrightness
  split <;> simp

/-! ### The layout, in three parts -/

/-- The canvas, the placements and the pages fit the size declared. -/
def GeometryOk (b : Board) : Prop :=
  b.width ≤ 512 ∧ b.height ≤ 128 ∧ b.panelCount ≤ 8 ∧ b.canvas.length = b.height ∧ (∀ row ∈ b.canvas, row.length = b.width)
    ∧ (∀ p g, b.places.get p = some g → p.num ≤ b.panelCount ∧ regionOk b.width b.height g = true)
    ∧ (∀ p q g o, p ≠ q → b.places.get p = some g → b.places.get q = some o → overlap g o = false)
    ∧ ∀ i p, pageAt b.pages i = some p → PageOk b.width b.height p

/-- The current page is a defined one, none only while none is defined, with 1 to its dwell remaining. -/
def CycleOk (b : Board) : Prop :=
  (b.current = none → b.dwell = 0 ∧ ∀ i, pageAt b.pages i = none)
    ∧ ∀ i, b.current = some i → ∃ p, pageAt b.pages i = some p ∧ 1 ≤ b.dwell ∧ b.dwell ≤ p.dwell

/-- Records of the lines of the current page, in RUN or HOLD. -/
def RecordsFit (b : Board) (rs : List LineRecord) : Prop :=
  (b.mode = .run ∨ b.mode = .hold) ∧ ∃ p, currentPage b = some p ∧ List.Forall₂ (fun l r => contentFits l.kind r.content) p.lines rs

/-- Line records, built or kept, are those of the current page, and a rendered page has some. -/
def RecordsOk (b : Board) : Prop :=
  (∀ rs, b.lines = some rs → RecordsFit b rs) ∧ (b.kept ≠ [] → b.lines = none ∧ RecordsFit b b.kept)
    ∧ (b.rendered = true → heldLines b ≠ [])

theorem layoutOk_iff (b : Board) : LayoutOk b ↔ GeometryOk b ∧ CycleOk b ∧ RecordsOk b := by
  unfold LayoutOk GeometryOk CycleOk RecordsOk RecordsFit
  tauto

theorem LayoutOk.geometry {b : Board} (h : LayoutOk b) : GeometryOk b := ((layoutOk_iff b).mp h).1
theorem LayoutOk.cycle {b : Board} (h : LayoutOk b) : CycleOk b := ((layoutOk_iff b).mp h).2.1
theorem LayoutOk.records {b : Board} (h : LayoutOk b) : RecordsOk b := ((layoutOk_iff b).mp h).2.2

/-- The records held of the current page are records of its lines. -/
theorem RecordsOk.held {b : Board} (h : RecordsOk b) (hne : heldLines b ≠ []) : RecordsFit b (heldLines b) := by
  obtain ⟨hlines, hkept, -⟩ := h
  cases hl : b.lines with
  | some rs => exact (show heldLines b = rs by simp [heldLines, hl]) ▸ hlines rs hl
  | none =>
    have hheld : heldLines b = b.kept := by simp [heldLines, hl]
    exact hheld ▸ (hkept (hheld ▸ hne)).2

/-- No records at all are in order. -/
theorem recordsOk_none {b : Board} (hl : b.lines = none) (hk : b.kept = []) (hr : b.rendered = false) : RecordsOk b :=
  ⟨fun rs h => absurd (hl ▸ h) (by simp), fun h => absurd hk h, fun h => absurd (hr ▸ h) (by simp)⟩

/-- Outside RUN and HOLD no records are held. -/
theorem RecordsOk.none_of_mode {b : Board} (h : RecordsOk b) (hrun : b.mode ≠ .run) (hhold : b.mode ≠ .hold) :
    b.lines = none ∧ b.kept = [] ∧ b.rendered = false := by
  have hno : ∀ rs, ¬ RecordsFit b rs := fun rs hfit => hfit.1.elim hrun hhold
  have hl : b.lines = none := by
    cases hl : b.lines with
    | none => rfl
    | some rs => exact absurd (h.1 rs hl) (hno rs)
  have hk : b.kept = [] := Classical.byContradiction fun hk => hno _ (h.2.1 hk).2
  refine ⟨hl, hk, ?_⟩
  cases hr : b.rendered with
  | false => rfl
  | true => exact absurd (by simp [heldLines, hl, hk]) (h.2.2 hr)

/-! ### Drawing (R67) -/

theorem drawCanvas_length (w h : Nat) (ls : List Layer) : (drawCanvas w h ls).length = h := by simp [drawCanvas]

theorem drawCanvas_row {w h : Nat} {ls : List Layer} {row : List Pixel} (hr : row ∈ drawCanvas w h ls) : row.length = w := by
  obtain ⟨y, -, rfl⟩ := List.mem_map.mp hr
  simp

/-- A canvas drawn of the declared size. -/
theorem GeometryOk.drawn {b : Board} (h : GeometryOk b) (ls : List Layer) {lines : Option (List LineRecord)} {pending rendered : Bool} :
    GeometryOk { b with canvas := drawCanvas b.width b.height ls, lines := lines, pending := pending, rendered := rendered } := by
  obtain ⟨h1, h2, h3, -, -, hrest⟩ := h
  exact ⟨h1, h2, h3, drawCanvas_length _ _ _, fun row hrow => drawCanvas_row hrow, hrest⟩

theorem paint_layoutOk {s : State} (h : LayoutOk s.board) (ls : List Layer) :
    LayoutOk (paint (drawCanvas s.board.width s.board.height ls) s).board :=
  (layoutOk_iff _).mpr ⟨h.geometry.drawn ls, h.cycle, h.records⟩

/-- The marks of a render leave the contents of the line records. -/
@[simp] theorem markRecord_content (top : Option Overlay) (k : LineKind) (r : LineRecord) : (markRecord top k r).content = r.content := by
  unfold markRecord
  dsimp only
  (repeat' split) <;> rfl

theorem markRecords_fit (s : State) {p : Page} {rs : List LineRecord}
    (h : List.Forall₂ (fun l r => contentFits l.kind r.content) p.lines rs) :
    List.Forall₂ (fun l r => contentFits l.kind r.content) p.lines (markRecords s p rs) := by
  unfold markRecords
  generalize p.lines = ls at h
  induction h with
  | nil => exact .nil
  | cons hfit _ ih => exact .cons (by simpa using hfit) ih

theorem fits_ne_nil {w h : Nat} {p : Page} (hp : PageOk w h p) {rs : List LineRecord}
    (hf : List.Forall₂ (fun l r => contentFits l.kind r.content) p.lines rs) : rs ≠ [] := by
  rintro rfl
  have hlines : p.lines = [] := List.forall₂_nil_right_iff.mp hf
  have := hp.2.2.2.1
  simp [hlines] at this

theorem currentPage_of_current {b : Board} {i : Fin 4} (h : b.current = some i) : currentPage b = pageAt b.pages i := by
  simp [currentPage, h]

theorem renderPage_layoutOk {s : State} (h : LayoutOk s.board) : LayoutOk (renderPage s).board := by
  unfold renderPage
  split
  · exact paint_layoutOk h _
  · next i hi =>
    split
    · next p rs hp hrs =>
      obtain ⟨hmode, q, hq, hfit⟩ := h.records.1 rs hrs
      obtain rfl : p = q := by rw [currentPage_of_current hi, hp] at hq; exact Option.some.inj hq
      have hmarked := markRecords_fit s hfit
      refine (layoutOk_iff _).mpr ⟨h.geometry.drawn _, h.cycle, ?_, fun hk => ?_, fun _ => ?_⟩
      · rintro _ ⟨⟩
        exact ⟨hmode, p, hq, hmarked⟩
      · exact absurd (h.records.2.1 hk).1 (by simp [hrs])
      · exact fits_ne_nil (h.geometry.2.2.2.2.2.2.2 i p hp) hmarked
    · exact h

theorem performRender_layoutOk {s : State} (h : LayoutOk s.board) : LayoutOk (performRender s).board := by
  unfold performRender
  split
  · exact paint_layoutOk h _
  · exact paint_layoutOk h _
  · exact renderPage_layoutOk h
  · exact renderPage_layoutOk h
  · exact h

theorem requestRender_layoutOk {s : State} (h : LayoutOk s.board) : LayoutOk (requestRender s).board := by
  unfold requestRender
  split
  · exact h
  · exact performRender_layoutOk h

theorem completeCoding_layoutOk {s : State} (h : LayoutOk s.board) : LayoutOk (completeCoding s).board := by
  cases hr : s.coder.record with
  | none => rw [completeCoding_none hr]; exact h
  | some r =>
    rw [completeCoding_some hr, deliverIfFree_board]
    unfold renderPending
    split
    · refine performRender_layoutOk ?_
      exact h
    · exact h

theorem settle_layoutOk {s : State} (h : LayoutOk s.board) : LayoutOk (settle s).board := by
  unfold settle startFrame
  split
  · dsimp only
    split
    · refine completeCoding_layoutOk ?_
      exact h
    · exact h
  · exact h

theorem overlayRender_layoutOk {s : State} (h : LayoutOk s.board) : LayoutOk (overlayRender s).board := by
  unfold overlayRender
  split
  · exact settle_layoutOk (requestRender_layoutOk h)
  · exact h

theorem handBrightness_layoutOk {s : State} (h : LayoutOk s.board) (n : Nat) : LayoutOk (handBrightness n s).board := by
  unfold handBrightness
  split
  · exact h
  · refine settle_layoutOk ?_
    exact h

/-! ### The page cycle (R64, R65) -/

/-- The page chosen is a defined one; none is chosen only while none is defined. -/
theorem choice_defined {s : State} {start i : Fin 4} (h : choice s start = some i) : ∃ p, pageAt s.board.pages i = some p := by
  unfold choice at h
  split at h
  · next j hj =>
    cases h
    have := List.find?_some hj
    split at this
    · next p hp => exact ⟨p, hp⟩
    · cases this
  · have hdefined := List.find?_some h
    exact Option.isSome_iff_exists.mp hdefined

theorem mem_cyclic (start i : Fin 4) : i ∈ cyclic start := by
  revert start i
  decide

theorem choice_eq_none_iff (s : State) (start : Fin 4) : choice s start = none ↔ ∀ i, pageAt s.board.pages i = none := by
  constructor
  · intro h i
    unfold choice at h
    split at h
    · cases h
    · simpa using List.find?_eq_none.mp h i (mem_cyclic 0 i)
  · intro h
    cases hc : choice s start with
    | none => rfl
    | some i =>
      obtain ⟨p, hp⟩ := choice_defined hc
      rw [h i] at hp
      cases hp

/-- A page chosen leaves the layout in order, where the records held before it are those of a page still current. -/
theorem choosePage_layoutOk {s : State} (hgeo : GeometryOk s.board) (hheld : heldLines s.board ≠ [] → RecordsFit s.board (heldLines s.board))
    (hrendered : s.board.rendered = true → heldLines s.board ≠ []) (start : Fin 4) : LayoutOk (choosePage start s).board := by
  refine (layoutOk_iff _).mpr ⟨hgeo, ⟨fun hnone => ⟨?_, (choice_eq_none_iff s start).mp hnone⟩, fun i hi => ?_⟩, ?_, fun hk => ?_, fun hr => ?_⟩
  · change (((choice s start).bind (pageAt s.board.pages)).map fun p => p.dwell).getD 0 = 0
    rw [show choice s start = none from hnone]
    rfl
  · obtain ⟨p, hp⟩ := choice_defined hi
    refine ⟨p, hp, ?_⟩
    change 1 ≤ (((choice s start).bind (pageAt s.board.pages)).map fun p => p.dwell).getD 0
      ∧ (((choice s start).bind (pageAt s.board.pages)).map fun p => p.dwell).getD 0 ≤ p.dwell
    rw [show choice s start = some i from hi]
    simp only [Option.bind_some, hp, Option.map_some, Option.getD_some]
    exact ⟨Nat.le_of_succ_le (hgeo.2.2.2.2.2.2.2 i p hp).1, Nat.le_refl _⟩
  · rintro _ ⟨⟩
  · refine ⟨rfl, ?_⟩
    rw [choosePage_kept] at hk ⊢
    split at hk
    · next hsame =>
      obtain ⟨hmode, p, hp, hfit⟩ := hheld hk
      refine ⟨hmode, p, ?_, by rw [if_pos hsame]; exact hfit⟩
      rw [← hp, currentPage, currentPage, choosePage_current, hsame]
      rfl
    · exact absurd rfl hk
  · rw [choosePage_rendered, Bool.and_eq_true, decide_eq_true_iff] at hr
    have hheld : heldLines (choosePage start s).board = heldLines s.board := by
      simp [heldLines, hr.2]
    exact hheld ▸ hrendered hr.1

theorem LayoutOk.choosePage {s : State} (h : LayoutOk s.board) (start : Fin 4) : LayoutOk (choosePage start s).board :=
  choosePage_layoutOk h.geometry h.records.held h.records.2.2 start

theorem pageStep_layoutOk {s : State} (h : LayoutOk s.board) : LayoutOk (pageStep s).board := by
  unfold pageStep
  split
  · exact h
  · next i hi =>
    split
    · exact h
    · split
      · exact h.choosePage _
      · next hdwell =>
        obtain ⟨hnone, hsome⟩ := h.cycle
        refine (layoutOk_iff _).mpr ⟨h.geometry, ⟨fun hn => absurd hn (by simp [hi]), fun j hj => ?_⟩, h.records⟩
        obtain ⟨p, hp, hlow, hhigh⟩ := hsome j hj
        exact ⟨p, hp, by dsimp only; omega, by dsimp only; omega⟩

/-! ### The building of line records (R66) -/

theorem buildContent_fits (s : State) (k : LineKind) : contentFits k (buildContent s k) := by
  cases k with
  | departure =>
    simp only [buildContent]
    split <;> trivial
  | clock => trivial
  | phrase => rfl
  | band => rfl

theorem buildLines_fit (s : State) (ls : List LineDef) (old : List LineRecord) :
    List.Forall₂ (fun l r => contentFits l.kind r.content) ls (buildLines s ls old) := by
  induction ls generalizing old with
  | nil => exact .nil
  | cons l ls ih => exact .cons (buildContent_fits s l.kind) (ih _)

theorem buildPage_layoutOk {s : State} (h : LayoutOk s.board) (hmode : s.board.mode = .run) : LayoutOk (buildPage s).board := by
  unfold buildPage
  split
  · exact h
  · next p hp =>
    have hfit := buildLines_fit s p.lines (heldLines s.board)
    obtain ⟨i, hi, hpage⟩ := Option.bind_eq_some_iff.mp hp
    refine (layoutOk_iff _).mpr ⟨h.geometry, h.cycle, ?_, fun hk => absurd rfl hk, fun _ => ?_⟩
    · rintro _ ⟨⟩
      exact ⟨.inl hmode, p, hp, hfit⟩
    · exact fits_ne_nil (h.geometry.2.2.2.2.2.2.2 i p hpage) hfit

@[simp] theorem pageStep_mode (s : State) : (pageStep s).board.mode = s.board.mode := by
  unfold pageStep
  (repeat' split) <;> rfl

theorem composerTick_layoutOk {s : State} (h : LayoutOk s.board) : LayoutOk (composerTick s).board := by
  unfold composerTick
  split
  · exact h
  · next hmode =>
    exact settle_layoutOk (requestRender_layoutOk (buildPage_layoutOk (pageStep_layoutOk h) (by simpa using hmode)))
  · exact h

end Sys2Proof.Machine

end

/-! The prediction permission and the records' display under every step, the layout under every request, and with them O58. -/

section

namespace Sys2Proof.Machine

open Sys2Proof

/-! ### The display of a record (R74 to R77) -/

/-- The shown minutes, if any, and the rise count lie within the bounds of the settings. -/
def DisplayBounded (c : Countdown) (r : Live) : Prop := (∀ m, r.shown = some m → 1 ≤ m ∧ m ≤ c.maxMin) ∧ r.rise < c.rise

theorem DisplayOk.bounded {b : Board} {r : Live} (h : DisplayOk b r) : DisplayBounded b.countdown r := ⟨h.2.2.1, h.2.2.2.1⟩

/-- A record that is not in MINUTES form, shows no minutes and counts no rise displays by any permission. -/
theorem displayOk_of_absent {b : Board} (hc : CountdownOk b.countdown) {r : Live} (hf : r.form ≠ .minutes) (hs : r.shown = none)
    (hr : r.rise = 0) : DisplayOk b r :=
  ⟨by simp [hf, hs], fun h => absurd h hf, by simp [hs], by obtain ⟨-, -, -, -, h, -⟩ := hc; omega, fun _ => hr⟩

theorem fresh_displayOk {b : Board} (hc : CountdownOk b.countdown) (d : Departure) : DisplayOk b (fresh d) :=
  displayOk_of_absent hc (by simp [fresh]) rfl rfl

theorem timeForm_minutes {c : EvalContext} {r : Live} (h : timeForm c r = .minutes) :
    c.allowed = true ∧ minutesLeft c r ≤ c.settings.maxMin := by
  unfold timeForm at h
  split at h
  · cases h
  split at h
  · cases h
  split at h
  · split at h <;> cases h
  next hallowed =>
  split at h
  · cases h
  split at h
  · cases h
  split at h
  · cases h
  next hmax => exact ⟨by simpa using hallowed, Nat.not_lt.mp hmax⟩

/-- A record in MINUTES form displays well when its minutes and rise count are bounded and predictions are allowed. -/
theorem displayOk_of_minutes {b : Board} (ha : b.allowed = true) {r : Live} (hf : r.form = .minutes) {m : Nat} (hs : r.shown = some m)
    (hm : 1 ≤ m ∧ m ≤ b.countdown.maxMin) (hr : r.rise < b.countdown.rise) : DisplayOk b r :=
  ⟨by simp [hf, hs], fun _ => ha, fun n hn => Option.some.inj (hs ▸ hn) ▸ hm, hr, fun h => absurd hf h⟩

/-- What the evaluation gives a bounded record displays well. -/
theorem evalRecord_displayOk {c : EvalContext} {b : Board} (hset : c.settings = b.countdown) (hall : c.allowed = b.allowed)
    (hc : CountdownOk b.countdown) {r : Live} (hr : DisplayBounded b.countdown r) : DisplayOk b (evalRecord c r) := by
  have hpos : 0 < b.countdown.rise := hc.2.2.2.2.1
  by_cases hform : timeForm c r = .minutes
  · obtain ⟨hallowed, hmax⟩ := timeForm_minutes hform
    have hm : 1 ≤ minutesLeft c r ∧ minutesLeft c r ≤ b.countdown.maxMin := ⟨Nat.le_max_left _ _, hset ▸ hmax⟩
    rw [evalRecord_of_minutes hform]
    rw [hall] at hallowed
    cases hs : r.shown with
    | none =>
      rw [setMinutes_absent hs]
      exact displayOk_of_minutes hallowed rfl rfl hm hpos
    | some old =>
      rcases Nat.lt_or_ge old (minutesLeft c r) with hold | hold
      · cases ht : c.tick with
        | false =>
          rw [setMinutes_demand hs hold ht]
          exact displayOk_of_minutes hallowed rfl hs (hr.1 old hs) hr.2
        | true =>
          rw [setMinutes_tick hs hold ht, hset]
          split
          · exact displayOk_of_minutes hallowed rfl rfl hm hpos
          · next hrise => exact displayOk_of_minutes hallowed rfl hs (hr.1 old hs) (Nat.not_le.mp hrise)
      · rw [setMinutes_fall hs hold]
        exact displayOk_of_minutes hallowed rfl rfl hm hpos
  · rw [evalRecord_of_ne_minutes hform]
    exact displayOk_of_absent hc hform rfl rfl

/-! ### The records of a table that a batch publishes -/

section

variable {Q : Live → Prop} (hfresh : ∀ d, Q (fresh d)) (hcarry : ∀ r d, Q r → Q { r with dep := d })

include hfresh hcarry

theorem carryOver_keeps {old : List Live} (h : ∀ r ∈ old, Q r) (d : Departure) : Q (carryOver old d) := by
  unfold carryOver
  split
  · next r hr => exact hcarry r d (h r (List.mem_of_find?_eq_some hr))
  · exact hfresh d

theorem place_keeps {rs : List Live} (h : ∀ r ∈ rs, Q r) (d : Departure) : ∀ r ∈ (place d rs).1, Q r := by
  have hall : ∀ r ∈ placed d rs, Q r := by
    intro r hr
    rcases List.mem_cons.mp ((placed_perm d rs).subset hr) with rfl | hr
    · exact carryOver_keeps hfresh hcarry h d
    · exact h r (mem_removeTrip.mp hr).1
  unfold place
  dsimp only
  split
  · exact hall
  · exact fun r hr => hall r (List.dropLast_subset _ hr)

theorem applyChanges_keeps {cs : List Change} {rs : List Live} (h : ∀ r ∈ rs, Q r) : ∀ r ∈ (applyChanges cs rs).1, Q r := by
  induction cs generalizing rs with
  | nil => exact h
  | cons c cs ih =>
    cases c with
    | put d => exact ih (place_keeps hfresh hcarry h d)
    | drop t => exact ih fun r hr => h r (mem_removeTrip.mp hr).1

/-- What holds of new records and of the old ones under a new departure holds of the table published. -/
theorem publish_keeps {rs : List Live} (h : ∀ r ∈ rs, Q r) (st : Staged) : ∀ r ∈ (publish st rs).1, Q r := by
  cases st with
  | replace set =>
    intro r hr
    obtain ⟨d, -, rfl⟩ := List.mem_map.mp ((replaceAll_perm set rs).subset hr)
    exact carryOver_keeps hfresh hcarry h d
  | merge cs => exact applyChanges_keeps hfresh hcarry h

end

/-! ### The permission (R50) -/

/-- The settings lie in their ranges, and every record displays by the permission held. -/
def DisplaysOk (s : State) : Prop := CountdownOk s.board.countdown ∧ ∀ r ∈ s.table.records, DisplayOk s.board r

theorem PermissionOk.displays {s : State} (h : PermissionOk s) : DisplaysOk s := h.2

/-- Everything that the permission and the records' display are about. -/
def displayInputs (s : State) : ClockState × SupState × SupAction × Bool × Bool × Countdown × List Live :=
  (s.clock.state, s.sup.state, s.sup.action, s.board.mode == .unconfigured, s.board.allowed, s.board.countdown, s.table.records)

theorem permission_eq_inputs (s : State) :
    permission s = ((s.clock.state == .locked || s.clock.state == .coasting) && !(s.sup.state == .expired && s.sup.action == .predictionsOff)
      && !(s.board.mode == .unconfigured)) := rfl

theorem PermissionOk.of_inputs {s t : State} (h : PermissionOk s) (ht : displayInputs t = displayInputs s) : PermissionOk t := by
  simp only [displayInputs, Prod.mk.injEq] at ht
  obtain ⟨hclock, hstate, haction, hmode, hallowed, hcount, hrecords⟩ := ht
  obtain ⟨h1, h2, h3⟩ := h
  refine ⟨?_, hcount ▸ h2, fun r hr => ?_⟩
  · rw [hallowed, h1, permission_eq_inputs, permission_eq_inputs, hclock, hstate, haction, hmode]
  · obtain ⟨hd1, hd2, hd3, hd4, hd5⟩ := h3 r (hrecords ▸ hr)
    exact ⟨hd1, fun hf => hallowed ▸ hd2 hf, hcount ▸ hd3, hcount ▸ hd4, hd5⟩

/-- Other records that display by the permission held. -/
theorem PermissionOk.setRecords {s : State} (h : PermissionOk s) {t : Table} (ht : ∀ r ∈ t.records, DisplayOk s.board r) :
    PermissionOk { s with table := t } := ⟨h.1, h.2.1, ht⟩

theorem evaluate_displays {tick : Bool} {s : State} (hc : CountdownOk s.board.countdown)
    (hr : ∀ r ∈ s.table.records, DisplayBounded s.board.countdown r) : DisplaysOk (evaluate tick s) := by
  refine ⟨hc, fun r hr' => ?_⟩
  obtain ⟨q, hq, rfl⟩ := List.mem_map.mp hr'
  exact evalRecord_displayOk rfl rfl hc (hr q hq)

theorem evaluate_permissionOk {tick : Bool} {s : State} (h : PermissionOk s) : PermissionOk (evaluate tick s) :=
  ⟨h.1, evaluate_displays h.2.1 fun r hr => (h.2.2 r hr).bounded⟩

theorem recompute_of_same {s : State} (h : permission s = s.board.allowed) : recompute s = s := if_pos h

theorem recompute_of_changed {s : State} (h : permission s ≠ s.board.allowed) :
    recompute s = evaluate false { s with board := { s.board with allowed := permission s } } := if_neg h

/-- A recomputation makes the permission held the one that stands, and the records display by it. -/
theorem recompute_permissionOk {s : State} (h : DisplaysOk s) : PermissionOk (recompute s) := by
  by_cases hp : permission s = s.board.allowed
  · rw [recompute_of_same hp]
    exact ⟨hp.symm, h⟩
  · rw [recompute_of_changed hp]
    exact ⟨rfl, evaluate_displays h.1 fun r hr => (h.2 r hr).bounded⟩

/-! ### The blocks that recompute it -/

@[simp] theorem runClock_state (w : Bool) (c : Clock) : (runClock w c).state = c.state := by
  unfold runClock
  dsimp only
  split
  · rfl
  · split <;> rfl

section

variable {s : State} (h : PermissionOk s)

include h

theorem expire_permissionOk (cause : Nat) : PermissionOk (expire cause s) := recompute_permissionOk h.displays

theorem goodClose_permissionOk : PermissionOk (goodClose s) := by
  unfold goodClose
  split
  · next hs => exact h.of_inputs (by simp [displayInputs])
  · exact recompute_permissionOk h.displays
  · exact h

theorem badClose_permissionOk : PermissionOk (badClose s) := by
  unfold badClose
  split
  · exact expire_permissionOk h _
  · exact h

theorem closeGood_permissionOk (b : Batch) : PermissionOk (closeGood b s).1 := by
  have hpublished := publish_keeps (Q := DisplayOk s.board) (fresh_displayOk h.2.1) (fun _ _ hr => hr) h.2.2 b.staged
  have hs1 := h.setRecords (t := { s.table with records := (publish b.staged s.table.records).1 }) hpublished
  exact goodClose_permissionOk (hs1.of_inputs (by simp [displayInputs]))

theorem batchCloseBody_permissionOk (tag : Byte) : PermissionOk (batchCloseBody tag s).1 := by
  unfold batchCloseBody
  split
  · exact badClose_permissionOk h
  · split
    · exact closeGood_permissionOk h _
    · exact badClose_permissionOk (h.of_inputs rfl)

theorem supTick_permissionOk : PermissionOk (supTick s) := by
  unfold supTick
  split
  · exact h
  · split
    · exact expire_permissionOk h _
    · exact h.of_inputs rfl

theorem lapse_permissionOk (cause : Nat) : PermissionOk (lapse cause s) := recompute_permissionOk h.displays

theorem clockTick_permissionOk : PermissionOk (clockTick s) := by
  unfold clockTick
  split
  · exact h
  · dsimp only
    split
    · next hcoasts =>
      have hlocked : s.clock.state = .locked := by
        rw [coasts, Bool.and_eq_true, beq_iff_eq] at hcoasts
        exact hcoasts.1
      obtain ⟨h1, h2⟩ := h
      refine ⟨?_, h2⟩
      simpa [permission, hlocked] using h1
    · split
      · refine lapse_permissionOk ?_ _
        exact h.of_inputs rfl
      · exact h.of_inputs rfl

theorem clockSubTick_permissionOk (w : Bool) : PermissionOk (clockSubTick w s) := by
  have hran : PermissionOk (setClock (runClock w s.clock) s) := h.of_inputs (by simp [displayInputs])
  unfold clockSubTick
  split
  · exact h
  · dsimp only
    split
    · exact lapse_permissionOk hran _
    · exact hran

theorem tableTick_permissionOk : PermissionOk (tableTick s) := by
  unfold tableTick
  split
  · exact h
  · exact h.setRecords fun r hr => h.2.2 r (List.mem_filter.mp hr).1

end

theorem applyMark_displays {s : State} (h : DisplaysOk s) (day m : Nat) : DisplaysOk (applyMark day m s).1 := by
  refine ⟨by simpa using h.1, fun r hr => ?_⟩
  rw [applyMark_board]
  refine h.2 r ?_
  revert hr
  unfold applyMark
  split
  · exact id
  · split
    · intro hr; cases hr
    · split
      · unfold markAcquiring; (repeat' split) <;> exact id
      · exact id
      · unfold markLocked; split <;> exact id

theorem timeMarkBody_permissionOk {s : State} (h : PermissionOk s) (day sec six : Nat) : PermissionOk (timeMarkBody day sec six s).1 := by
  unfold timeMarkBody
  split
  · exact h
  · refine recompute_permissionOk (applyMark_displays ?_ _ _)
    exact h.displays

theorem readCountdown_ok (raw : RawCountdown) : CountdownOk (readCountdown raw) := by
  simp only [CountdownOk, readCountdown, clampTo]
  omega

theorem setCountdownBody_permissionOk {s : State} (h : PermissionOk s) (raw : RawCountdown) : PermissionOk (setCountdownBody raw s).1 := by
  have hc := readCountdown_ok raw
  have hcleared : ∀ (b : Board), b.countdown = readCountdown raw → ∀ r ∈ s.table.records.map clearDerived, DisplayOk b r := by
    intro b hb r hr
    obtain ⟨q, -, rfl⟩ := List.mem_map.mp hr
    refine displayOk_of_absent (hb ▸ hc) ?_ rfl rfl
    unfold clearDerived
    dsimp only
    split <;> simp_all
  unfold setCountdownBody
  dsimp only
  split
  · exact ⟨h.1, hc, hcleared _ rfl⟩
  · exact ⟨h.1, evaluate_displays hc fun r hr => (hcleared { s.board with countdown := readCountdown raw } rfl r hr).bounded⟩

/-! ### What drawing leaves of the permission's inputs -/

/-- The permission's inputs survive what leaves the layout, the clock, the supervisor and the table. -/
theorem displayInputs_of_layout {s t : State} (hb : layoutOf t.board = layoutOf s.board) (hc : t.clock = s.clock) (hs : t.sup = s.sup)
    (ht : t.table = s.table) : displayInputs t = displayInputs s := by
  have hmode : t.board.mode = s.board.mode := (congrArg Board.mode hb :)
  have hallowed : t.board.allowed = s.board.allowed := (congrArg Board.allowed hb :)
  have hcount : t.board.countdown = s.board.countdown := (congrArg Board.countdown hb :)
  simp [displayInputs, hmode, hallowed, hcount, hc, hs, ht]

@[simp] theorem displayInputs_settle (s : State) : displayInputs (settle s) = displayInputs s :=
  displayInputs_of_layout (by simp) (by simp) (by simp) (by simp)

@[simp] theorem displayInputs_requestRender (s : State) : displayInputs (requestRender s) = displayInputs s :=
  displayInputs_of_layout (by simp) (by simp) (by simp) (by simp)

@[simp] theorem displayInputs_overlayRender (s : State) : displayInputs (overlayRender s) = displayInputs s :=
  displayInputs_of_layout (by simp) (by simp) (by simp) (by simp)

@[simp] theorem displayInputs_handBrightness (n : Nat) (s : State) : displayInputs (handBrightness n s) = displayInputs s :=
  displayInputs_of_layout (by simp) (by simp) (by simp) (by simp)

@[simp] theorem displayInputs_completeCoding (s : State) : displayInputs (completeCoding s) = displayInputs s :=
  displayInputs_of_layout (by simp) (by simp) (by simp) (by simp)

@[simp] theorem displayInputs_choosePage (i : Fin 4) (s : State) : displayInputs (choosePage i s) = displayInputs s := rfl

@[simp] theorem displayInputs_pageStep (s : State) : displayInputs (pageStep s) = displayInputs s := by
  unfold pageStep
  (repeat' split) <;> rfl

@[simp] theorem displayInputs_buildPage (s : State) : displayInputs (buildPage s) = displayInputs s := by
  unfold buildPage
  split <;> rfl

theorem composerTick_permissionOk {s : State} (h : PermissionOk s) : PermissionOk (composerTick s) := by
  unfold composerTick
  split
  · exact h
  · exact (evaluate_permissionOk (tick := true) h).of_inputs (by simp)
  · exact evaluate_permissionOk h

theorem overlayTick_inputs (s : State) : displayInputs (overlayTick s) = displayInputs s := by
  unfold overlayTick
  dsimp only
  split
  · rw [displayInputs_overlayRender]; simp [displayInputs]
  · simp [displayInputs]

theorem blockTick_permissionOk (b : TickBlock) {s : State} (h : PermissionOk s) : PermissionOk (blockTick b s) := by
  cases b with
  | clock => exact clockTick_permissionOk h
  | table => exact tableTick_permissionOk h
  | batch => exact h.of_inputs (by simp [blockTick, displayInputs])
  | supervisor => exact supTick_permissionOk h
  | overlays => exact h.of_inputs (overlayTick_inputs s)
  | composer => exact composerTick_permissionOk h
  | chain => exact h.of_inputs (by simp [blockTick, displayInputs])
  | uptime => exact h.of_inputs rfl

theorem overlaySubTick_permissionOk {s : State} (h : PermissionOk s) : PermissionOk (overlaySubTick s) := by
  refine h.of_inputs ?_
  unfold overlaySubTick
  split
  · rfl
  · dsimp only
    split
    · rw [displayInputs_overlayRender]; rfl
    · rfl

/-! ### The requests that change the board (R53 to R63) -/

theorem setBoardBody_permissionOk {s : State} (h : PermissionOk s) (w hh n : Nat) : PermissionOk (setBoardBody w hh n s).1 := by
  have hdisplays : DisplaysOk (chainDeclare (clearMarks { s with board := declareBoard w hh n s.board })) := by
    simp only [DisplaysOk, chainDeclare_board, chainDeclare_table, clearMarks_board, clearMarks_table]
    exact h.displays
  unfold setBoardBody
  split
  any_goals exact h
  all_goals
    split
    · exact h
    · split
      · exact h
      · exact recompute_permissionOk hdisplays

/-- The mode entered and the permission's settings. -/
@[simp] theorem enterMode_mode (m : BoardMode) (s : State) : (enterMode m s).board.mode = m := by
  cases m with
  | blank | test => exact (congrArg Board.mode (layoutOf_requestRender _) :)
  | run => rfl
  | unconfigured | enumerating | hold => rfl

theorem enterMode_inputs {m : BoardMode} {s : State} (hm : m ≠ .unconfigured) (hs : s.board.mode ≠ .unconfigured) :
    displayInputs (enterMode m s) = displayInputs s := by
  have hs2 : displayInputs { s with board := { s.board with mode := m } } = displayInputs s := by simp [displayInputs, hm, hs]
  rw [← hs2]
  unfold enterMode
  dsimp only
  split <;> split <;> (try rw [displayInputs_requestRender]) <;> rfl

theorem isConfigured_iff (m : BoardMode) : isConfigured m = true ↔ m = .blank ∨ m = .run ∨ m = .test ∨ m = .hold := by
  cases m <;> simp [isConfigured]

theorem readMode_configured {b : Byte} {m : BoardMode} (h : readMode b = some m) : isConfigured m = true := by
  unfold readMode at h
  split at h <;> cases h <;> rfl

theorem ne_unconfigured {m : BoardMode} (h : isConfigured m = true) : m ≠ .unconfigured := by
  rintro rfl
  cases h

theorem setModeBody_permissionOk {s : State} (h : PermissionOk s) (b : Byte) : PermissionOk (setModeBody b s).1 := by
  unfold setModeBody
  split
  · exact h
  · next hconf =>
    split
    · exact h
    · next m hm =>
      have hs := ne_unconfigured (Bool.eq_true_of_not_eq_false hconf)
      split
      · refine h.of_inputs ?_
        dsimp only
        split <;> rfl
      · refine h.of_inputs ?_
        rw [displayInputs_settle, enterMode_inputs (ne_unconfigured (readMode_configured hm)) hs]

theorem setPanelBody_inputs (r : RawPanel) (s : State) : displayInputs (setPanelBody r s).1 = displayInputs s := by
  unfold setPanelBody
  split
  · rfl
  · dsimp only
    split
    · rfl
    · split
      · simp only [placePanel, displayInputs_settle]
        split <;> (try rw [displayInputs_requestRender]) <;> simp [displayInputs]
      · rfl

theorem setPageBody_inputs (i d l f : Byte) (ls : List RawLine) (s : State) : displayInputs (setPageBody i d l f ls s).1 = displayInputs s := by
  unfold setPageBody
  split
  · rfl
  · split <;> rfl

theorem pushOverlayBody_inputs (raw : RawOverlay) (s : State) : displayInputs (pushOverlayBody raw s).1 = displayInputs s := by
  unfold pushOverlayBody
  split
  · rfl
  · simp only [displayInputs_overlayRender]
    simp [displayInputs]

theorem withdrawBody_inputs (id : Nat) (s : State) : displayInputs (withdrawBody id s).1 = displayInputs s := by
  unfold withdrawBody
  split
  · rfl
  · split
    · rfl
    · dsimp only
      split
      · rw [displayInputs_overlayRender]; rfl
      · rfl

theorem setPaletteBody_inputs (first : Byte) (es : List RGB) (s : State) : displayInputs (setPaletteBody first es s).1 = displayInputs s := by
  unfold setPaletteBody
  split
  · rfl
  · rw [displayInputs_settle]; rfl

theorem setBrightnessBody_inputs (b : RawBrightness) (s : State) : displayInputs (setBrightnessBody b s).1 = displayInputs s := by
  unfold setBrightnessBody
  split
  · rfl
  · rw [displayInputs_handBrightness]; rfl

theorem resetTablesBody_permissionOk {s : State} (h : PermissionOk s) : PermissionOk (resetTablesBody s).1 := by
  have hcleared : PermissionOk (clearTable s) := h.setRecords fun r hr => by cases hr
  refine hcleared.of_inputs ?_
  simp only [resetTablesBody, clearOverlays, displayInputs_overlayRender]
  rfl

/-- While the supervisor is not EXPIRED, the permission is a matter of the clock and the board (R50). -/
theorem permission_of_not_expired {s : State} (h : s.sup.state ≠ .expired) :
    permission s = ((s.clock.state == .locked || s.clock.state == .coasting) && s.board.mode != .unconfigured) := by
  simp [permission, beq_eq_false_iff_ne.mpr h]

theorem setSupervisorBody_permissionOk {s : State} (h : PermissionOk s) (p : BitVec 16) (a hb m : Byte) :
    PermissionOk (setSupervisorBody p a hb m s).1 := by
  refine ⟨?_, by simpa [DisplaysOk] using h.displays⟩
  unfold setSupervisorBody
  split
  · exact h.1
  · next hdis =>
    split
    · rw [h.1, permission_of_not_expired (by simp_all), permission_of_not_expired (by dsimp only; split <;> simp)]
    · exact h.1

theorem commandBody_permissionOk (c : Instr) {s : State} (h : Inv s) : PermissionOk (commandBody c s).1 := by
  have hp := h.permissionOk
  cases c with
  | timeMark v d n x => exact timeMarkBody_permissionOk hp _ _ _
  | batchClose v t => exact batchCloseBody_permissionOk hp _
  | setCountdown v c => exact setCountdownBody_permissionOk hp c
  | setBoard v w hh n => exact setBoardBody_permissionOk hp _ _ _
  | setMode v m => exact setModeBody_permissionOk hp m
  | resetUnitTables v => exact resetTablesBody_permissionOk hp
  | setPanel v p => exact hp.of_inputs (setPanelBody_inputs _ _)
  | setPage v i d l f ls => exact hp.of_inputs (setPageBody_inputs _ _ _ _ _ _)
  | pushOverlay v o => exact hp.of_inputs (pushOverlayBody_inputs _ _)
  | withdrawOverlay v i => exact hp.of_inputs (withdrawBody_inputs _ _)
  | setPalette v f es => exact hp.of_inputs (setPaletteBody_inputs _ _ _)
  | setBrightness v b => exact hp.of_inputs (setBrightnessBody_inputs _ _)
  | setSupervisor v p a hb m => exact setSupervisorBody_permissionOk hp _ _ _ _
  | setClockRules v k t c l => exact hp.of_inputs rfl
  | setRetirement v m => exact hp.of_inputs rfl
  | _ => exact hp.of_inputs (by simp [commandBody, displayInputs])

end Sys2Proof.Machine

end

/-! The layout under every request and event, and O58. -/

section

namespace Sys2Proof.Machine

open Sys2Proof

/-! ### Operations that touch the board's permission alone -/

/-- The board without the permission held. -/
def withoutPermission (b : Board) : Board := { b with allowed := false }

theorem layoutOk_of_withoutPermission {b c : Board} (h : LayoutOk b) (hb : withoutPermission c = withoutPermission b) : LayoutOk c := by
  have hc : LayoutOk (withoutPermission c) := hb ▸ h
  exact hc

@[simp] theorem withoutPermission_recompute (s : State) : withoutPermission (recompute s).board = withoutPermission s.board := by
  unfold recompute
  split <;> rfl

@[simp] theorem withoutPermission_expire (cause : Nat) (s : State) : withoutPermission (expire cause s).board = withoutPermission s.board := by
  simp [expire]

@[simp] theorem withoutPermission_goodClose (s : State) : withoutPermission (goodClose s).board = withoutPermission s.board := by
  unfold goodClose
  split <;> simp

@[simp] theorem withoutPermission_badClose (s : State) : withoutPermission (badClose s).board = withoutPermission s.board := by
  unfold badClose
  split <;> simp

@[simp] theorem withoutPermission_batchCloseBody (tag : Byte) (s : State) :
    withoutPermission (batchCloseBody tag s).1.board = withoutPermission s.board := by
  unfold batchCloseBody closeGood
  split
  · simp
  · split <;> simp

@[simp] theorem withoutPermission_supTick (s : State) : withoutPermission (supTick s).board = withoutPermission s.board := by
  unfold supTick
  split
  · rfl
  · split
    · simp
    · rfl

@[simp] theorem withoutPermission_lapse (cause : Nat) (s : State) : withoutPermission (lapse cause s).board = withoutPermission s.board := by
  simp [lapse]

@[simp] theorem withoutPermission_clockTick (s : State) : withoutPermission (clockTick s).board = withoutPermission s.board := by
  unfold clockTick
  split
  · rfl
  · dsimp only
    split
    · rfl
    · split
      · simp
      · rfl

@[simp] theorem withoutPermission_clockSubTick (w : Bool) (s : State) : withoutPermission (clockSubTick w s).board = withoutPermission s.board := by
  unfold clockSubTick
  split
  · rfl
  · dsimp only
    split
    · simp
    · rfl

@[simp] theorem withoutPermission_timeMarkBody (day sec six : Nat) (s : State) :
    withoutPermission (timeMarkBody day sec six s).1.board = withoutPermission s.board := by
  unfold timeMarkBody
  split
  · rfl
  · simp

theorem recompute_layoutOk {s : State} (h : LayoutOk s.board) : LayoutOk (recompute s).board :=
  layoutOk_of_withoutPermission h (by simp)

/-! ### The ticks -/

theorem overlayTick_layoutOk {s : State} (h : LayoutOk s.board) : LayoutOk (overlayTick s).board := by
  unfold overlayTick
  dsimp only
  split
  · exact overlayRender_layoutOk (by simpa using h)
  · simpa using h

theorem blockTick_layoutOk (b : TickBlock) {s : State} (h : LayoutOk s.board) : LayoutOk (blockTick b s).board := by
  cases b with
  | clock => exact layoutOk_of_withoutPermission h (by simp [blockTick])
  | supervisor => exact layoutOk_of_withoutPermission h (by simp [blockTick])
  | overlays => exact overlayTick_layoutOk h
  | composer => exact composerTick_layoutOk h
  | _ => simpa [blockTick] using h

theorem overlaySubTick_layoutOk {s : State} (h : LayoutOk s.board) : LayoutOk (overlaySubTick s).board := by
  unfold overlaySubTick
  split
  · exact h
  · dsimp only
    split
    · refine overlayRender_layoutOk ?_
      exact h
    · exact h

/-! ### SET_BOARD (R53) -/

theorem layoutOk_declared {w hh n : Nat} (hf : boardFieldsOk w hh n = true) (b : Board) : LayoutOk (declareBoard w hh n b) := by
  have hsize := of_decide_eq_true hf
  refine (layoutOk_iff _).mpr ⟨⟨hsize.2.1, hsize.2.2.2.2.1, hsize.2.2.2.2.2.2.2, by simp [declareBoard], ?_, ?_, ?_, ?_⟩, ⟨fun _ => ⟨rfl, pageAt_none⟩, ?_⟩, ?_⟩
  · intro row hrow
    rw [List.eq_of_mem_replicate hrow]
    simp [declareBoard]
  · intro p g hg
    cases (all_none_get p).symm.trans hg
  · intro p q g o _ hg
    cases (all_none_get p).symm.trans hg
  · intro i p hp
    cases (pageAt_none i).symm.trans hp
  · rintro i ⟨⟩
  · exact recordsOk_none rfl rfl rfl

theorem setBoardBody_layoutOk {s : State} (h : LayoutOk s.board) (w hh n : Nat) : LayoutOk (setBoardBody w hh n s).1.board := by
  unfold setBoardBody
  split
  any_goals exact h
  all_goals
    split
    · exact h
    · split
      · exact h
      · next hf =>
        refine recompute_layoutOk ?_
        rw [chainDeclare_board, clearMarks_board]
        exact layoutOk_declared (Bool.eq_true_of_not_eq_false hf) _

/-! ### SET_PANEL (R55, R56) -/

theorem overlap_comm (a b : Placement) : overlap a b = overlap b a := by
  unfold overlap
  exact decide_eq_decide.mpr ⟨fun ⟨h1, h2, h3, h4⟩ => ⟨h2, h1, h4, h3⟩, fun ⟨h1, h2, h3, h4⟩ => ⟨h2, h1, h4, h3⟩⟩

@[simp] theorem mem_posAll (p : Pos) : p ∈ Pos.all := by
  revert p
  decide

@[simp] theorem get_tabulate {α : Type} (f : Pos → α) (p : Pos) : (Per8.tabulate f).get p = f p := by
  fin_cases p <;> rfl

@[simp] theorem get_set_same {α : Type} (f : Per8 α) (p : Pos) (a : α) : (f.set p a).get p = a := by
  simp [Per8.set]

theorem get_set_other {α : Type} (f : Per8 α) {p q : Pos} (h : q ≠ p) (a : α) : (f.set p a).get q = f.get q := by
  simp [Per8.set, h]

theorem overlapsOther_eq_false_iff (s : State) (p : Pos) (g : Placement) :
    overlapsOther s p g = false ↔ ∀ q o, q ≠ p → s.board.places.get q = some o → overlap g o = false := by
  unfold overlapsOther
  rw [List.any_eq_false]
  constructor
  · intro h q o hq ho
    simpa [hq, ho] using h q (mem_posAll q)
  · intro h q _
    cases ho : s.board.places.get q with
    | none => simp
    | some o =>
      by_cases hq : q = p
      · simp [hq]
      · simp [h q o hq ho]

theorem placePanel_layoutOk {s : State} (h : LayoutOk s.board) {p : Pos} {g : Placement} (hnum : p.num ≤ s.board.panelCount)
    (hregion : regionOk s.board.width s.board.height g = true) (hapart : overlapsOther s p g = false) : LayoutOk (placePanel p g s).board := by
  have hother := (overlapsOther_eq_false_iff s p g).mp hapart
  have hplaced : LayoutOk { s.board with places := s.board.places.set p (some g) } := by
    obtain ⟨h1, h2, h3, h4, h5, hdecl, hover, hpages⟩ := h.geometry
    refine (layoutOk_iff _).mpr ⟨⟨h1, h2, h3, h4, h5, fun q o ho => ?_, fun q r o o' hne ho ho' => ?_, hpages⟩, h.cycle, h.records⟩
    · by_cases hq : q = p
      · subst hq
        rw [get_set_same] at ho
        cases ho
        exact ⟨hnum, hregion⟩
      · rw [get_set_other _ hq] at ho
        exact hdecl q o ho
    · by_cases hq : q = p
      · subst hq
        rw [get_set_same] at ho
        rw [get_set_other _ hne.symm] at ho'
        cases ho
        exact hother r o' hne.symm ho'
      · rw [get_set_other _ hq] at ho
        by_cases hr : r = p
        · subst hr
          rw [get_set_same] at ho'
          cases ho'
          exact overlap_comm _ _ ▸ hother q o hq ho
        · rw [get_set_other _ hr] at ho'
          exact hover q r o o' hne ho ho'
  unfold placePanel
  dsimp only
  refine settle_layoutOk ?_
  split
  · exact requestRender_layoutOk (by simpa using hplaced)
  · simpa using hplaced

theorem setPanelBody_layoutOk {s : State} (h : LayoutOk s.board) (r : RawPanel) : LayoutOk (setPanelBody r s).1.board := by
  unfold setPanelBody
  split
  · exact h
  · dsimp only
    split
    · exact h
    · split
      · next hok =>
        obtain ⟨hnum, hregion, hapart⟩ := hok
        exact placePanel_layoutOk h hnum hregion hapart
      · exact h

/-! ### SET_MODE (R57 to R60) -/

/-- Another mode in which records may be held, or none held. -/
theorem LayoutOk.setMode {b : Board} (h : LayoutOk b) {m : BoardMode}
    (hm : m = .run ∨ m = .hold ∨ (b.lines = none ∧ b.kept = [] ∧ b.rendered = false)) : LayoutOk { b with mode := m } := by
  refine (layoutOk_iff _).mpr ⟨h.geometry, h.cycle, ?_⟩
  have hin : ∀ (_ : m = .run ∨ m = .hold) rs, RecordsFit b rs → RecordsFit { b with mode := m } rs := fun hm rs hfit => ⟨hm, hfit.2⟩
  obtain ⟨hlines, hkept, hrendered⟩ := h.records
  rcases or_assoc.mpr hm with hm | ⟨hl, hk, hr⟩
  · exact ⟨fun rs hrs => hin hm rs (hlines rs hrs), fun hk => ⟨(hkept hk).1, hin hm _ (hkept hk).2⟩, hrendered⟩
  · exact recordsOk_none hl hk hr

theorem LayoutOk.dropImage {s : State} (h : LayoutOk s.board) : LayoutOk (dropImage s).board :=
  (layoutOk_iff _).mpr ⟨h.geometry, h.cycle, recordsOk_none rfl rfl rfl⟩

/-- The palette marks of a change to or from BLANK. -/
def blankMarks (m : BoardMode) (s : State) : State := if s.board.mode = .blank ∨ m = .blank then markPalettes s else s

@[simp] theorem blankMarks_board (m : BoardMode) (s : State) : (blankMarks m s).board = s.board := by
  unfold blankMarks
  split <;> rfl

/-- The mode entered, before what its entry does. -/
def withMode (m : BoardMode) (s : State) : State := { blankMarks m s with board := { s.board with mode := m } }

theorem withMode_eq (m : BoardMode) (s : State) : { blankMarks m s with board := { (blankMarks m s).board with mode := m } } = withMode m s := by
  rw [blankMarks_board]
  rfl

theorem enterMode_blank (s : State) : enterMode .blank s = requestRender (dropImage (withMode .blank s)) := by rw [← withMode_eq]; rfl
theorem enterMode_test (s : State) : enterMode .test s = requestRender (dropImage (withMode .test s)) := by rw [← withMode_eq]; rfl
theorem enterMode_run (s : State) : enterMode .run s = choosePage 0 (withMode .run s) := by rw [← withMode_eq]; rfl
theorem enterMode_hold (s : State) : enterMode .hold s = withMode .hold s := by rw [← withMode_eq]; rfl

theorem enterMode_layoutOk {s : State} (h : LayoutOk s.board) {m : BoardMode} (hm : isConfigured m = true) : LayoutOk (enterMode m s).board := by
  have hdropped : ∀ m, LayoutOk (dropImage (withMode m s)).board := fun m => by
    have hd : LayoutOk { s.board with lines := none, pending := false, kept := [], rendered := false } := h.dropImage
    exact hd.setMode (m := m) (.inr (.inr ⟨rfl, rfl, rfl⟩))
  cases m with
  | unconfigured | enumerating => cases hm
  | blank => rw [enterMode_blank]; exact requestRender_layoutOk (hdropped _)
  | test => rw [enterMode_test]; exact requestRender_layoutOk (hdropped _)
  | run =>
    rw [enterMode_run]
    refine LayoutOk.choosePage ?_ 0
    exact h.setMode (.inl rfl)
  | hold => rw [enterMode_hold]; exact h.setMode (.inr (.inl rfl))

theorem setModeBody_layoutOk {s : State} (h : LayoutOk s.board) (b : Byte) : LayoutOk (setModeBody b s).1.board := by
  unfold setModeBody
  split
  · exact h
  · split
    · exact h
    · next m hm =>
      split
      · dsimp only
        split
        · exact h.choosePage 0
        · exact h
      · exact settle_layoutOk (enterMode_layoutOk h (readMode_configured hm))

/-! ### SET_PAGE (R61 to R63) -/

theorem pageAt_setPageAt_same (ps : Pages) (i : Fin 4) (p : Option Page) : pageAt (setPageAt ps i p) i = p := by
  fin_cases i <;> rfl

theorem pageAt_setPageAt_other (ps : Pages) {i j : Fin 4} (h : j ≠ i) (p : Option Page) : pageAt (setPageAt ps i p) j = pageAt ps j := by
  revert h
  fin_cases i <;> fin_cases j <;> simp [setPageAt, pageAt]

theorem readLine_fits {cw ch : Nat} {r : RawLine} {l : LineDef} (h : readLine cw ch r = some l) :
    1 ≤ l.height ∧ 1 ≤ l.width ∧ l.x + l.width ≤ cw ∧ l.y + l.height ≤ ch ∧ l.font ≤ 3 := by
  unfold readLine at h
  split at h
  · split at h <;> cases h
    next hok =>
    obtain ⟨hh, hw, hx, hy, hf, -, -⟩ := hok
    exact ⟨byte_toNat_pos hh, Nat.pos_of_ne_zero fun h0 => hw (BitVec.eq_of_toNat_eq h0), hx, hy, hf⟩
  · cases h

theorem readLines_cons {cw ch : Nat} {l : RawLine} {ls : List RawLine} {ds : List LineDef} (h : readLines cw ch (l :: ls) = some ds) :
    ∃ e es, readLine cw ch l = some e ∧ readLines cw ch ls = some es ∧ ds = e :: es := by
  unfold readLines at h
  split at h
  · next e es he hes => cases h; exact ⟨e, es, he, hes, rfl⟩
  · cases h

theorem mem_readLines {cw ch : Nat} {ls : List RawLine} {ds : List LineDef} (h : readLines cw ch ls = some ds) {d : LineDef} (hd : d ∈ ds) :
    ∃ l ∈ ls, readLine cw ch l = some d := by
  induction ls generalizing ds with
  | nil => cases h; cases hd
  | cons l ls ih =>
    obtain ⟨e, es, he, hes, rfl⟩ := readLines_cons h
    rcases List.mem_cons.mp hd with rfl | hd
    · exact ⟨l, List.mem_cons_self, he⟩
    · obtain ⟨m, hm, hmd⟩ := ih hes hd
      exact ⟨m, List.mem_cons_of_mem _ hm, hmd⟩

theorem readPage_ok {b : Board} {dwell language skip : Byte} {lines : List RawLine} {q : Page}
    (h : readPage b dwell language skip lines = some (some q)) : PageOk b.width b.height q := by
  unfold readPage at h
  split at h
  · next f ls _ hls =>
    split at h
    · next hok =>
      obtain ⟨hlang, hlen, hapart⟩ := hok
      split at h
      · cases h
      · next hne =>
        cases h
        have hdwell := clampTo_mem (lo := 2) (hi := 60) (by decide) dwell.toNat
        refine ⟨hdwell.1, hdwell.2, hlang, List.length_pos_of_ne_nil hne, hlen, hapart, fun l hl => ?_⟩
        obtain ⟨r, -, hr⟩ := mem_readLines hls hl
        exact readLine_fits hr
    · cases h
  · cases h

/-- The current page replaced: its records go. -/
theorem storePage_current {s : State} {i : Fin 4} (h : s.board.current = some i) (p : Option Page) :
    storePage i p s = choosePage 0 { s with board := { s.board with
      pages := setPageAt s.board.pages i p, pending := false, lines := none, kept := [], rendered := false } } := by
  simp [storePage, h]

/-- Another page stored: the current page's records are kept for their marks. -/
theorem storePage_other {s : State} {i : Fin 4} (h : s.board.current ≠ some i) (p : Option Page) :
    storePage i p s = choosePage 0 { s with board := { s.board with
      pages := setPageAt s.board.pages i p, pending := false, lines := none, kept := heldLines s.board } } := by
  simp [storePage, h]

theorem storePage_layoutOk {s : State} (h : LayoutOk s.board) (i : Fin 4) {p : Option Page}
    (hp : ∀ q, p = some q → PageOk s.board.width s.board.height q) : LayoutOk (storePage i p s).board := by
  obtain ⟨h1, h2, h3, h4, h5, h6, h7, hpages⟩ := h.geometry
  have hgeo : ∀ j q, pageAt (setPageAt s.board.pages i p) j = some q → PageOk s.board.width s.board.height q := by
    intro j q hq
    by_cases hj : j = i
    · subst hj
      exact hp q ((pageAt_setPageAt_same _ _ _).symm.trans hq)
    · exact hpages j q (pageAt_setPageAt_other _ hj _ ▸ hq)
  by_cases hcur : s.board.current = some i
  · rw [storePage_current hcur]
    refine choosePage_layoutOk ?_ ?_ ?_ 0
    · exact ⟨h1, h2, h3, h4, h5, h6, h7, hgeo⟩
    · exact fun hne => absurd rfl hne
    · exact fun hr => absurd hr (by simp)
  · rw [storePage_other hcur]
    refine choosePage_layoutOk ?_ (fun hne => ?_) ?_ 0
    · exact ⟨h1, h2, h3, h4, h5, h6, h7, hgeo⟩
    · obtain ⟨hmode, q, hq, hfit⟩ := h.records.held hne
      refine ⟨hmode, q, ?_, hfit⟩
      obtain ⟨j, hj, hpage⟩ := Option.bind_eq_some_iff.mp hq
      have hji : j ≠ i := fun heq => hcur (heq ▸ hj)
      exact Option.bind_eq_some_iff.mpr ⟨j, hj, (pageAt_setPageAt_other _ hji _).trans hpage⟩
    · exact h.records.2.2

theorem setPageBody_layoutOk {s : State} (h : LayoutOk s.board) (i d l f : Byte) (ls : List RawLine) :
    LayoutOk (setPageBody i d l f ls s).1.board := by
  unfold setPageBody
  split
  · exact h
  · split
    · next p _ hp => exact storePage_layoutOk h _ fun q hq => readPage_ok (hq ▸ hp)
    · exact h

/-! ### The other requests and events -/

theorem commandBody_layoutOk (c : Instr) {s : State} (h : Inv s) : LayoutOk (commandBody c s).1.board := by
  have hl := h.layoutOk
  cases c with
  | timeMark v d n x => exact layoutOk_of_withoutPermission hl (by simp [commandBody])
  | batchClose v t => exact layoutOk_of_withoutPermission hl (by simp [commandBody])
  | setBoard v w hh n => exact setBoardBody_layoutOk hl _ _ _
  | setMode v m => exact setModeBody_layoutOk hl m
  | setPanel v p => exact setPanelBody_layoutOk hl p
  | setPage v i d l f ls => exact setPageBody_layoutOk hl _ _ _ _ _
  | setCountdown v c =>
    change LayoutOk (setCountdownBody c s).1.board
    unfold setCountdownBody
    dsimp only
    split <;> exact hl
  | pushOverlay v o =>
    change LayoutOk (pushOverlayBody o s).1.board
    unfold pushOverlayBody
    split
    · exact hl
    · exact overlayRender_layoutOk (by simpa using hl)
  | withdrawOverlay v i =>
    change LayoutOk (withdrawBody i.toNat s).1.board
    unfold withdrawBody
    split
    · exact hl
    · split
      · exact hl
      · dsimp only
        split
        · refine overlayRender_layoutOk ?_
          exact hl
        · exact hl
  | resetUnitTables v =>
    refine overlayRender_layoutOk ?_
    exact hl
  | setPalette v f es =>
    change LayoutOk (setPaletteBody f es s).1.board
    unfold setPaletteBody
    split
    · exact hl
    · refine settle_layoutOk ?_
      exact hl
  | setBrightness v b =>
    change LayoutOk (setBrightnessBody b s).1.board
    unfold setBrightnessBody
    split
    · exact hl
    · refine handBrightness_layoutOk ?_ _
      exact hl
  | _ => simpa [commandBody] using hl

theorem completeEnumeration_board (c : Nat) (s : State) : (completeEnumeration c s).board = { s.board with mode := .blank } := by
  unfold completeEnumeration
  dsimp only
  split <;> rfl

/-- An enumeration that holds the chain is that of an ENUMERATING board. -/
theorem enumerating_mode {s : State} (h : Inv s) (hw : s.chain.work = .enumerating) : s.board.mode = .enumerating := by
  have hchain := h.deliveryOk.2.1
  rwa [ChainOk, hw] at hchain

theorem completeEnumeration_layoutOk {s : State} (h : Inv s) (hw : s.chain.work = .enumerating) (c : Nat) :
    LayoutOk (completeEnumeration c s).board := by
  have hmode := enumerating_mode h hw
  rw [completeEnumeration_board]
  exact h.layoutOk.setMode (.inr (.inr (h.layoutOk.records.none_of_mode (by simp [hmode]) (by simp [hmode]))))

theorem chainEvent_layoutOk {c : Instr} (hc : family c = .chain) {s : State} (h : Inv s) : LayoutOk (stateAfter c s).board := by
  have hl := h.layoutOk
  cases c <;> cases hc <;>
    simp only [stateAfter, exec, execProbeRoundStart, execEnumerationStart, execEnumerationComplete, execEnumerationTimeout,
      execCodingComplete, execDeliveryStart, execAnswerAck, execAnswerNak, execAnswerTimeout, execDeliveryEnd]
  case enumerationComplete =>
    split
    · next hw =>
      split
      · split
        · exact hl
        · exact settle_layoutOk (completeEnumeration_layoutOk h hw _)
      · exact hl
    · exact hl
  case enumerationTimeout =>
    split
    · next hw => exact settle_layoutOk (completeEnumeration_layoutOk h hw _)
    · exact hl
  case codingComplete =>
    split
    · exact completeCoding_layoutOk hl
    · exact hl
  case answerAck =>
    split
    · split
      · exact settle_layoutOk (by simpa using hl)
      · exact hl
    · split
      · exact settle_layoutOk (by simpa using hl)
      · exact hl
    · exact hl
  case answerNak =>
    split
    · split
      · exact settle_layoutOk (by simpa using hl)
      · exact hl
    · split
      · exact settle_layoutOk (by simpa using hl)
      · exact hl
    · exact hl
  case answerTimeout =>
    split
    · exact settle_layoutOk (by simpa using hl)
    · split
      · exact hl
      · exact settle_layoutOk (by simpa using hl)
    · exact hl
  case deliveryEnd =>
    split
    · exact settle_layoutOk (by simpa using hl)
    · exact hl
  all_goals (repeat' split) <;> simpa using hl

theorem lightEvent_layoutOk {c : Instr} (hc : family c = .light) {s : State} (h : LayoutOk s.board) : LayoutOk (stateAfter c s).board := by
  cases c <;> cases hc
  case luxInPulse => exact h
  case lightWindowEnd => exact handBrightness_layoutOk (by simpa using h) _

theorem step_layoutOk {s t : State} (hs : Inv s) (h : step s = .next t) : LayoutOk t.board := by
  refine step_keeps (P := fun s => LayoutOk s.board) (fun s hs => hs.layoutOk) (fun v k q l a s h => by simpa using h)
    (fun c s hs => commandBody_layoutOk c hs) (fun b s h => blockTick_layoutOk b h)
    (fun w s h => layoutOk_of_withoutPermission h (by simp)) (fun s h => overlaySubTick_layoutOk h) (fun bs x s h => h)
    (fun c s hc hs => ?_) (fun c s hc hs => chainEvent_layoutOk hc hs) (fun c s hc hs => lightEvent_layoutOk hc hs.layoutOk) hs h
  rw [lineEvent_frame hc]
  exact hs.layoutOk

/-! ### The permission under the events of the chain (O58) -/

/-- No event of the chain changes the permission's inputs: an enumeration ends on a board that was ENUMERATING. -/
theorem chainEvent_inputs {c : Instr} (hc : family c = .chain) {s : State} (h : Inv s) : displayInputs (stateAfter c s) = displayInputs s := by
  have hframe : ∀ t : State, t = { s with board := t.board, coder := t.coder, chain := t.chain, notices := t.notices } →
      layoutOf t.board = layoutOf s.board → displayInputs t = displayInputs s := by
    intro t ht hb
    refine displayInputs_of_layout hb ?_ ?_ ?_ <;> rw [ht]
  have henum : s.chain.work = .enumerating → ∀ n, displayInputs (settle (completeEnumeration n s)) = displayInputs s := by
    intro hw n
    rw [displayInputs_settle]
    simp [displayInputs, completeEnumeration_board, enumerating_mode h hw]
  cases c <;> cases hc
  case enumerationComplete raw =>
    simp only [stateAfter, exec, execEnumerationComplete]
    split
    · next hw =>
      split
      · split
        · rfl
        · exact henum hw _
      · rfl
    · rfl
  case enumerationTimeout =>
    simp only [stateAfter, exec, execEnumerationTimeout]
    split
    · next hw => exact henum hw _
    · rfl
  all_goals
    refine hframe _ (chainEvent_frame rfl s) ?_
    simp only [stateAfter, exec, execProbeRoundStart, execEnumerationStart, execCodingComplete, execDeliveryStart, execAnswerAck, execAnswerNak,
      execAnswerTimeout, execDeliveryEnd]
    (repeat' split) <;> simp

theorem step_permissionOk {s t : State} (hs : Inv s) (h : step s = .next t) : PermissionOk t := by
  refine step_keeps (P := PermissionOk) (fun s hs => hs.permissionOk) (fun v k q l a s h => h.of_inputs (by simp [displayInputs]))
    (fun c s hs => commandBody_permissionOk c hs) (fun b s h => blockTick_permissionOk b h) (fun w s h => clockSubTick_permissionOk h w)
    (fun s h => overlaySubTick_permissionOk h) (fun bs x s h => h) (fun c s hc hs => ?_)
    (fun c s hc hs => hs.permissionOk.of_inputs (chainEvent_inputs hc hs)) (fun c s hc hs => ?_) hs h
  · rw [lineEvent_frame hc]
    exact hs.permissionOk
  · cases c <;> cases hc
    · exact hs.permissionOk
    · refine hs.permissionOk.of_inputs ((displayInputs_handBrightness _ _).trans ?_)
      simp [displayInputs]

/-- Settles O58, by the permission's inputs and the three parts of the layout, operation by operation. -/
theorem stepKeepsDisplay : Obligations.StepKeepsDisplay := fun _ _ hs h => ⟨step_permissionOk hs h, step_layoutOk hs h⟩

end Sys2Proof.Machine

end

/-! The coder, the chain and the board under every step: O60. -/

section

namespace Sys2Proof.Machine

open Sys2Proof

/-! ### What delivery is about, up to the marks -/

/-- The coder without the dirty sets. -/
def unmarked (c : Coder) : Coder := { c with dirty := Per8.all false, palDirty := Per8.all false }

@[simp] theorem unmarked_paint (c : Canvas) (s : State) : unmarked (paint c s).coder = unmarked s.coder := rfl

@[simp] theorem unmarked_renderPage (s : State) : unmarked (renderPage s).coder = unmarked s.coder := by
  unfold renderPage
  (repeat' split) <;> rfl

@[simp] theorem unmarked_performRender (s : State) : unmarked (performRender s).coder = unmarked s.coder := by
  unfold performRender
  split <;> simp

@[simp] theorem unmarked_requestRender (s : State) : unmarked (requestRender s).coder = unmarked s.coder := by
  unfold requestRender
  split
  · rfl
  · simp

@[simp] theorem unmarked_markBoth (p : Pos) (s : State) : unmarked (markBoth p s).coder = unmarked s.coder := by
  unfold markBoth
  split <;> rfl

@[simp] theorem unmarked_markPalettes (s : State) : unmarked (markPalettes s).coder = unmarked s.coder := rfl

/-- DeliveryOk, but that an IDLE frame state may leave eligible panels marked: what holds just before the start of a frame is tested. -/
def Unsettled (s : State) : Prop :=
  (s.coder.state = .idle → s.coder.record = none ∧ s.coder.stripes = []) ∧ (s.coder.state ≠ .idle → s.coder.record.isSome = true)
    ∧ s.coder.number ≤ 255 ∧ s.coder.palette.length = 16 ∧ ChainOk s ∧ BoardOk s

theorem deliveryOk_iff (s : State) : DeliveryOk s ↔ Unsettled s ∧ (s.coder.state = .idle → Pos.all.any (frameTakes s) = false) := by
  unfold DeliveryOk FrameOk Unsettled
  tauto

theorem DeliveryOk.unsettled {s : State} (h : DeliveryOk s) : Unsettled s := ((deliveryOk_iff s).mp h).1

/-- No delivery is under way. -/
def NoDelivery (s : State) : Prop := ∀ o rest g, s.chain.work ≠ .delivering o rest g

/-- The entries of the frame in hand, if any, are of panels that are sent packets. -/
def EntriesOk (s : State) : Prop := ∀ r, s.coder.record = some r → ∀ e ∈ r.entries, takesPackets s e.pos

theorem Unsettled.entries {s : State} (h : Unsettled s) (hw : NoDelivery s) : EntriesOk s := by
  obtain ⟨-, -, -, -, -, hboard⟩ := h
  exact hboard.2 hw

theorem Unsettled.idle_of_bare {s : State} (h : Unsettled s) (hm : isConfigured s.board.mode = false) :
    s.coder.state = .idle ∧ s.board.places = Per8.all none := by
  obtain ⟨-, -, -, -, -, hboard⟩ := h
  exact hboard.1 hm

/-- A frame that is not DELIVERING holds no chain. -/
theorem Unsettled.noDelivery {s : State} (h : Unsettled s) (hs : s.coder.state ≠ .delivering) : NoDelivery s := by
  obtain ⟨-, -, -, -, hchain, -⟩ := h
  intro o rest g hw
  rw [ChainOk, hw] at hchain
  exact hs hchain.1

theorem chainOk_of_noDelivery {s : State} (hw : NoDelivery s) (he : s.chain.work = .enumerating → s.board.mode = .enumerating) :
    ChainOk s := by
  unfold ChainOk
  split
  · trivial
  · next h => exact he h
  · next h => exact absurd h (hw _ _ _)
  · trivial

theorem Unsettled.enumerating {s : State} (h : Unsettled s) (hw : s.chain.work = .enumerating) : s.board.mode = .enumerating := by
  obtain ⟨-, -, -, -, hchain, -⟩ := h
  rwa [ChainOk, hw] at hchain

/-- The chain and the board fit one another after what leaves the coder but the marks, the mode, the placements and the holder of the
chain, and lets every panel that was sent packets be sent them. -/
theorem Unsettled.transfer {s t : State} (h : Unsettled s) (hcoder : unmarked t.coder = unmarked s.coder)
    (hmode : t.board.mode = s.board.mode) (hplaces : t.board.places = s.board.places) (hwork : t.chain.work = s.chain.work)
    (htakes : ∀ p, takesPackets s p → takesPackets t p) : Unsettled t := by
  obtain ⟨hidle, hbusy, hnum, hpal, hchain, hbare, hentries⟩ := h
  have hstate : t.coder.state = s.coder.state := (congrArg Coder.state hcoder :)
  have hrecord : t.coder.record = s.coder.record := (congrArg Coder.record hcoder :)
  have hstripes : t.coder.stripes = s.coder.stripes := (congrArg Coder.stripes hcoder :)
  have hnumber : t.coder.number = s.coder.number := (congrArg Coder.number hcoder :)
  have hpalette : t.coder.palette = s.coder.palette := (congrArg Coder.palette hcoder :)
  refine ⟨by rwa [hstate, hrecord, hstripes], by rwa [hstate, hrecord], by rwa [hnumber], by rwa [hpalette], ?_, ?_, ?_⟩
  · unfold ChainOk at hchain ⊢
    rw [hwork, hstate, hmode]
    split at hchain
    · trivial
    · exact hchain
    · obtain ⟨hdel, hout, hrest⟩ := hchain
      exact ⟨hdel, fun o ho => htakes _ (hout o ho), fun it hit => htakes _ (hrest it hit)⟩
    · trivial
  · rwa [hmode, hstate, hplaces]
  · intro hw r hr e he
    refine htakes _ (hentries (fun o rest g => ?_) r (hrecord ▸ hr) e he)
    exact hwork ▸ hw o rest g

/-- The same panels are sent packets where the panels' states are the same. -/
theorem takesPackets_congr {s t : State} (h : ∀ p, (t.chain.recs.get p).state = (s.chain.recs.get p).state) (p : Pos) :
    takesPackets t p ↔ takesPackets s p := by
  unfold takesPackets
  rw [h]

theorem frameTakes_congr {s t : State} (hcoder : t.coder = s.coder) (hplaces : t.board.places = s.board.places)
    (h : ∀ p, (t.chain.recs.get p).state = (s.chain.recs.get p).state) : frameTakes t = frameTakes s := by
  funext p
  simp only [frameTakes, panelEligible, isPlaced, hcoder, hplaces, h]

/-- Delivery is as it was where the coder, the mode, the placements, the holder of the chain and the panels' states are. -/
theorem DeliveryOk.transfer {s t : State} (h : DeliveryOk s) (hcoder : t.coder = s.coder) (hmode : t.board.mode = s.board.mode)
    (hplaces : t.board.places = s.board.places) (hwork : t.chain.work = s.chain.work)
    (hrecs : ∀ p, (t.chain.recs.get p).state = (s.chain.recs.get p).state) : DeliveryOk t := by
  obtain ⟨hun, hidle⟩ := (deliveryOk_iff s).mp h
  refine (deliveryOk_iff t).mpr ⟨hun.transfer (by rw [hcoder]) hmode hplaces hwork fun p => (takesPackets_congr hrecs p).mpr, ?_⟩
  rwa [hcoder, frameTakes_congr hcoder hplaces hrecs]

/-- The same where the coder and the chain are, and the board keeps its layout. -/
theorem DeliveryOk.of_layout {s t : State} (h : DeliveryOk s) (hcoder : t.coder = s.coder) (hchain : t.chain = s.chain)
    (hmode : t.board.mode = s.board.mode) (hplaces : t.board.places = s.board.places) : DeliveryOk t :=
  h.transfer hcoder hmode hplaces (by rw [hchain]) fun p => by rw [hchain]

/-- Another holder of a chain that no delivery holds. -/
theorem Unsettled.setHolder {s t : State} (h : Unsettled s) (hold : NoDelivery s) (hnew : NoDelivery t)
    (hcoder : unmarked t.coder = unmarked s.coder) (hmode : t.board.mode = s.board.mode) (hplaces : t.board.places = s.board.places)
    (henum : t.chain.work = .enumerating → s.board.mode = .enumerating) (htakes : ∀ p, takesPackets s p → takesPackets t p) :
    Unsettled t := by
  have hentries := h.entries hold
  obtain ⟨hidle, hbusy, hnum, hpal, -, hbare, -⟩ := h
  have hstate : t.coder.state = s.coder.state := (congrArg Coder.state hcoder :)
  have hrecord : t.coder.record = s.coder.record := (congrArg Coder.record hcoder :)
  have hstripes : t.coder.stripes = s.coder.stripes := (congrArg Coder.stripes hcoder :)
  have hnumber : t.coder.number = s.coder.number := (congrArg Coder.number hcoder :)
  have hpalette : t.coder.palette = s.coder.palette := (congrArg Coder.palette hcoder :)
  refine ⟨by rwa [hstate, hrecord, hstripes], by rwa [hstate, hrecord], by rwa [hnumber], by rwa [hpalette], ?_, ?_, ?_⟩
  · exact chainOk_of_noDelivery hnew fun hw => hmode ▸ henum hw
  · rwa [hmode, hstate, hplaces]
  · exact fun _ r hr e he => htakes _ (hentries r (hrecord ▸ hr) e he)

/-! ### The packets of a frame (R136) -/

theorem frameItems_pos {r : FrameRecord} {it : Item} (h : it ∈ frameItems r) : ∃ e ∈ r.entries, e.pos = itemPos it := by
  unfold frameItems at h
  rcases List.mem_append.mp h with h | h
  · obtain ⟨e, he, rfl⟩ := List.mem_map.mp h
    exact ⟨e, (List.mem_filter.mp he).1, rfl⟩
  · obtain ⟨e, he, hit⟩ := List.mem_flatMap.mp h
    obtain ⟨n, -, rfl⟩ := List.mem_map.mp hit
    exact ⟨e, (List.mem_filter.mp he).1, rfl⟩

@[simp] theorem takesPackets_sendNext (rest : List Item) (g : PosSet) (s : State) (p : Pos) :
    takesPackets (sendNext rest g s) p ↔ takesPackets s p := by
  unfold sendNext
  split <;> rfl

theorem sendNext_work (rest : List Item) (g : PosSet) (s : State) :
    (sendNext rest g s).chain.work = .delivering (rest.head?.map fun it => ⟨it, 1⟩) rest.tail g := by
  cases rest <;> rfl

/-- The frame DELIVERING sends its next packet: all that are left go to panels that are sent packets. -/
theorem sendNext_unsettled {s : State} (h : Unsettled s) (hstate : s.coder.state = .delivering) {rest : List Item}
    (hrest : ∀ it ∈ rest, takesPackets s (itemPos it)) (g : PosSet) : Unsettled (sendNext rest g s) := by
  obtain ⟨hidle, hbusy, hnum, hpal, -, hbare, -⟩ := h
  refine ⟨by simpa using hidle, by simpa using hbusy, by simpa using hnum, by simpa using hpal, ?_, by simpa using hbare, ?_⟩
  · unfold ChainOk
    rw [sendNext_work]
    refine ⟨by simpa using hstate, fun o ho => ?_, fun it hit => ?_⟩
    · obtain ⟨it, hit, rfl⟩ := Option.map_eq_some_iff.mp ho
      exact (takesPackets_sendNext _ _ _ _).mpr (hrest it (List.mem_of_mem_head? hit))
    · exact (takesPackets_sendNext _ _ _ _).mpr (hrest it (List.mem_of_mem_tail hit))
  · intro hw
    exact absurd (sendNext_work rest g s) (hw _ _ _)

theorem beginDelivery_unsettled {s : State} (h : Unsettled s) (hstate : s.coder.state = .delivering) (hw : NoDelivery s) :
    Unsettled (beginDelivery s) := by
  unfold beginDelivery
  split
  · exact h
  · next r hr =>
    refine sendNext_unsettled h hstate (fun it hit => ?_) _
    obtain ⟨e, he, hpos⟩ := frameItems_pos hit
    exact hpos ▸ h.entries hw r hr e he

@[simp] theorem deliverIfFree_coder (s : State) : (deliverIfFree s).coder = s.coder := by
  unfold deliverIfFree
  split <;> simp

theorem deliverIfFree_unsettled {s : State} (h : Unsettled s) (hstate : s.coder.state = .delivering) : Unsettled (deliverIfFree s) := by
  unfold deliverIfFree
  split
  · next hfree => exact beginDelivery_unsettled h hstate fun o rest g => by rw [hfree.1]; simp
  · exact h

/-! ### The life of a frame (R117 to R119) -/

/-- What drawing leaves of delivery. -/
theorem performRender_unsettled {s : State} (h : Unsettled s) : Unsettled (performRender s) :=
  h.transfer (by simp) (congrArg Board.mode (layoutOf_performRender s) :) (congrArg Board.places (layoutOf_performRender s) :) (by simp)
    fun p hp => by simpa [takesPackets] using hp

theorem requestRender_unsettled {s : State} (h : Unsettled s) : Unsettled (requestRender s) :=
  h.transfer (by simp) (congrArg Board.mode (layoutOf_requestRender s) :) (congrArg Board.places (layoutOf_requestRender s) :) (by simp)
    fun p hp => by simpa [takesPackets] using hp

/-- A frame in CODING whose coding completes is handed over, and is delivered at once by a free chain. -/
theorem completeCoding_unsettled {s : State} (h : Unsettled s) (hcoding : s.coder.state = .coding) : Unsettled (completeCoding s) := by
  have hw := h.noDelivery (by simp [hcoding])
  have hentries := h.entries hw
  have henum := h.enumerating
  cases hr : s.coder.record with
  | none => rw [completeCoding_none hr]; exact h
  | some r =>
    rw [completeCoding_some hr]
    have hstored : Unsettled (storeStripes r s) := by
      obtain ⟨-, -, hnum, hpal, -, hbare, -⟩ := h
      refine ⟨fun hi => (by cases hi), fun _ => (by simp [storeStripes, hr]), hnum, hpal, ?_, fun hm => ?_, fun _ => hentries⟩
      · exact chainOk_of_noDelivery hw henum
      · have := (hbare hm).1
        rw [hcoding] at this
        cases this
    unfold renderPending
    split
    · refine deliverIfFree_unsettled (performRender_unsettled hstored) ?_
      exact (congrArg Coder.state (unmarked_performRender (storeStripes r s)) :)
    · exact deliverIfFree_unsettled hstored rfl

theorem completeCoding_state {s : State} (h : s.coder.state ≠ .idle) : (completeCoding s).coder.state ≠ .idle := by
  cases hr : s.coder.record with
  | none => rwa [completeCoding_none hr]
  | some r =>
    rw [completeCoding_some hr, deliverIfFree_coder]
    unfold renderPending
    split
    · rw [show (performRender (storeStripes r s)).coder.state = .delivering from
        (congrArg Coder.state (unmarked_performRender (storeStripes r s)) :)]
      simp
    · simp [storeStripes]

theorem completeCoding_deliveryOk {s : State} (h : Unsettled s) (hcoding : s.coder.state = .coding) : DeliveryOk (completeCoding s) :=
  (deliveryOk_iff _).mpr ⟨completeCoding_unsettled h hcoding, fun hi => absurd hi (completeCoding_state (by simp [hcoding]))⟩

theorem frameEntry_pos {s : State} {p : Pos} {e : Entry} (h : frameEntry s p = some e) : e.pos = p ∧ frameTakes s p = true := by
  unfold frameEntry at h
  split at h
  · cases h
  · split at h <;> cases h
    next ht => exact ⟨rfl, ht⟩

theorem takesPackets_of_frameTakes {s : State} {p : Pos} (h : frameTakes s p = true) : takesPackets s p := by
  simp only [frameTakes, panelEligible, Bool.and_eq_true, Bool.or_eq_true, beq_iff_eq] at h
  exact h.1.2

theorem openFrame_unsettled {s : State} (h : Unsettled s) (hidle : s.coder.state = .idle) (hany : Pos.all.any (frameTakes s) = true) :
    Unsettled (openFrame s) := by
  have hw := h.noDelivery (by simp [hidle])
  have hbare := h.idle_of_bare
  refine ⟨fun hi => (by cases hi), fun _ => rfl, Nat.lt_succ_iff.mp (Nat.mod_lt _ (by decide)), h.2.2.2.1,
    chainOk_of_noDelivery hw h.enumerating, fun hm => ?_, fun _ r hr e he => ?_⟩
  · obtain ⟨p, -, hp⟩ := List.any_eq_true.mp hany
    simp [frameTakes, panelEligible, isPlaced, (hbare hm).2, all_none_get] at hp
  · cases hr
    obtain ⟨p, -, hp⟩ := List.mem_filterMap.mp he
    obtain ⟨hpos, htakes⟩ := frameEntry_pos hp
    have hmem : takesPackets s e.pos := hpos ▸ takesPackets_of_frameTakes htakes
    exact hmem

theorem startFrame_deliveryOk {s : State} (h : Unsettled s) (hidle : s.coder.state = .idle) (hany : Pos.all.any (frameTakes s) = true) :
    DeliveryOk (startFrame s) := by
  have hopen := openFrame_unsettled h hidle hany
  unfold startFrame
  dsimp only
  split
  · exact completeCoding_deliveryOk hopen rfl
  · exact (deliveryOk_iff _).mpr ⟨hopen, fun hi => by cases hi⟩

/-- The test for the start of a frame leaves no eligible panel marked with the frame state IDLE. -/
theorem settle_deliveryOk {s : State} (h : Unsettled s) : DeliveryOk (settle s) := by
  unfold settle
  split
  · next hstart => exact startFrame_deliveryOk h hstart.1 hstart.2
  · next hno =>
    refine (deliveryOk_iff _).mpr ⟨h, fun hi => ?_⟩
    exact Bool.eq_false_of_not_eq_true fun hany => hno ⟨hi, hany⟩

/-! ### Drawing and brightness -/

theorem overlayRender_deliveryOk {s : State} (h : DeliveryOk s) : DeliveryOk (overlayRender s) := by
  unfold overlayRender
  split
  · exact settle_deliveryOk (requestRender_unsettled h.unsettled)
  · exact h

theorem handBrightness_deliveryOk {s : State} (h : DeliveryOk s) (n : Nat) : DeliveryOk (handBrightness n s) := by
  unfold handBrightness
  split
  · exact h
  · exact settle_deliveryOk (h.unsettled.transfer (by simp) rfl rfl rfl fun _ => id)

/-! ### The ticks -/

theorem beginRound_deliveryOk {s : State} (h : DeliveryOk s) (hw : s.chain.work = .idle) : DeliveryOk (beginRound s) := by
  obtain ⟨hun, hidle⟩ := (deliveryOk_iff s).mp h
  have hold : NoDelivery s := fun o rest g => by rw [hw]; simp
  have hrecs : (beginRound s).chain.recs = s.chain.recs := by
    unfold beginRound probeNext
    split <;> rfl
  have hnew : NoDelivery (beginRound s) ∧ (beginRound s).chain.work ≠ .enumerating := by
    unfold beginRound probeNext
    split <;> exact ⟨fun o rest g => by simp [setWork, sendPacket], by simp [setWork, sendPacket]⟩
  refine (deliveryOk_iff _).mpr ⟨?_, ?_⟩
  · exact hun.setHolder hold hnew.1 (by simp) (by simp) (by simp) (fun he => absurd he hnew.2) fun p => by
      rw [takesPackets, takesPackets, hrecs]; exact id
  · rw [frameTakes_congr (by simp : (beginRound s).coder = s.coder) (by simp) fun p => by rw [hrecs], beginRound_coder]
    exact hidle

theorem chainTick_deliveryOk {s : State} (h : DeliveryOk s) : DeliveryOk (chainTick s) := by
  unfold chainTick
  dsimp only
  split
  · exact h.transfer rfl rfl rfl rfl fun _ => rfl
  · split
    · exact h.transfer rfl rfl rfl rfl fun _ => rfl
    · split
      · next hidle =>
        refine beginRound_deliveryOk ?_ hidle.1
        exact h.transfer rfl rfl rfl rfl fun _ => rfl
      · exact h.transfer rfl rfl rfl rfl fun _ => rfl

theorem composerTick_deliveryOk {s : State} (h : DeliveryOk s) : DeliveryOk (composerTick s) := by
  have hplaces : ∀ s : State, (pageStep s).board.places = s.board.places := by
    intro s
    unfold pageStep
    (repeat' split) <;> rfl
  have hbuilt : ∀ s : State, (buildPage s).board.mode = s.board.mode ∧ (buildPage s).board.places = s.board.places := by
    intro s
    unfold buildPage
    split <;> exact ⟨rfl, rfl⟩
  unfold composerTick
  split
  · exact h
  · refine settle_deliveryOk (requestRender_unsettled (h.unsettled.transfer ?_ ?_ ?_ (by simp) fun p hp => by simpa [takesPackets] using hp))
    · simp
    · rw [(hbuilt _).1, pageStep_mode, evaluate_board]
    · rw [(hbuilt _).2, hplaces, evaluate_board]
  · exact h.transfer rfl rfl rfl rfl fun _ => rfl

theorem overlayTick_deliveryOk {s : State} (h : DeliveryOk s) : DeliveryOk (overlayTick s) := by
  unfold overlayTick
  dsimp only
  split
  · exact overlayRender_deliveryOk (h.of_layout (by simp) (by simp) (by simp) (by simp))
  · exact h.of_layout (by simp) (by simp) (by simp) (by simp)

/-- What changes the permission held leaves delivery. -/
theorem DeliveryOk.of_permission {s t : State} (h : DeliveryOk s) (hcoder : t.coder = s.coder) (hchain : t.chain = s.chain)
    (hb : withoutPermission t.board = withoutPermission s.board) : DeliveryOk t :=
  h.of_layout hcoder hchain (congrArg Board.mode hb :) (congrArg Board.places hb :)

theorem blockTick_deliveryOk (b : TickBlock) {s : State} (h : DeliveryOk s) : DeliveryOk (blockTick b s) := by
  cases b with
  | clock => exact h.of_permission (by simp [blockTick]) (by simp [blockTick]) (by simp [blockTick])
  | supervisor => exact h.of_permission (by simp [blockTick]) (by simp [blockTick]) (by simp [blockTick])
  | overlays => exact overlayTick_deliveryOk h
  | composer => exact composerTick_deliveryOk h
  | chain => exact chainTick_deliveryOk h
  | table => exact h.of_permission (by simp [blockTick]) (by simp [blockTick]) (by simp [blockTick])
  | batch => exact h.of_permission (by simp [blockTick]) (by simp [blockTick]) (by simp [blockTick])
  | uptime => exact h.transfer rfl rfl rfl rfl fun _ => rfl

theorem overlaySubTick_deliveryOk {s : State} (h : DeliveryOk s) : DeliveryOk (overlaySubTick s) := by
  unfold overlaySubTick
  split
  · exact h
  · dsimp only
    split
    · exact overlayRender_deliveryOk (h.transfer rfl rfl rfl rfl fun _ => rfl)
    · exact h.transfer rfl rfl rfl rfl fun _ => rfl

/-! ### The requests -/

theorem setPaletteBody_deliveryOk {s : State} (h : DeliveryOk s) (first : Byte) (es : List RGB) : DeliveryOk (setPaletteBody first es s).1 := by
  unfold setPaletteBody
  split
  · exact h
  · next hok =>
    obtain ⟨h1, h2, h3, hpal, h5, h6⟩ := h.unsettled
    have hlen : (replaceEntries s.coder.palette first.toNat es).length = 16 := by
      rw [replaceEntries_length (by omega), hpal]
    exact settle_deliveryOk ⟨h1, h2, h3, hlen, h5, h6⟩

theorem setBrightnessBody_deliveryOk {s : State} (h : DeliveryOk s) (b : RawBrightness) : DeliveryOk (setBrightnessBody b s).1 := by
  unfold setBrightnessBody
  split
  · exact h
  · refine handBrightness_deliveryOk ?_ _
    exact h.transfer rfl rfl rfl rfl fun _ => rfl

theorem pushOverlayBody_deliveryOk {s : State} (h : DeliveryOk s) (raw : RawOverlay) : DeliveryOk (pushOverlayBody raw s).1 := by
  unfold pushOverlayBody
  split
  · exact h
  · exact overlayRender_deliveryOk (h.of_layout (by simp) (by simp) (by simp) (by simp))

theorem withdrawBody_deliveryOk {s : State} (h : DeliveryOk s) (id : Nat) : DeliveryOk (withdrawBody id s).1 := by
  unfold withdrawBody
  split
  · exact h
  · split
    · exact h
    · dsimp only
      split
      · exact overlayRender_deliveryOk (h.transfer rfl rfl rfl rfl fun _ => rfl)
      · exact h.transfer rfl rfl rfl rfl fun _ => rfl

/-- The board declared anew has no placement, so that no frame can start, and the frame state was IDLE. -/
theorem setBoardBody_deliveryOk {s : State} (h : DeliveryOk s) (w hh n : Nat) : DeliveryOk (setBoardBody w hh n s).1 := by
  have hdeclared : s.coder.state = .idle → DeliveryOk (chainDeclare (clearMarks { s with board := declareBoard w hh n s.board })) := by
    intro hidle
    have hw := h.unsettled.noDelivery (by simp [hidle])
    obtain ⟨hrec, -, hnum, hpal, -, -⟩ := h.unsettled
    have hcoder : (chainDeclare (clearMarks { s with board := declareBoard w hh n s.board })).coder
        = (clearMarks { s with board := declareBoard w hh n s.board }).coder := by simp
    refine (deliveryOk_iff _).mpr ⟨⟨?_, ?_, ?_, ?_, ?_, ?_, ?_⟩, fun _ => ?_⟩
    · rw [hcoder]; exact hrec
    · rw [hcoder]; exact fun hne => absurd hidle hne
    · rw [hcoder]; exact hnum
    · rw [hcoder]; exact hpal
    · have hmode : (chainDeclare (clearMarks { s with board := declareBoard w hh n s.board })).board.mode = .enumerating := by
        rw [chainDeclare_board]; rfl
      refine chainOk_of_noDelivery ?_ fun _ => hmode
      intro o rest g
      have hw' : ∀ o rest g, s.chain.work ≠ .delivering o rest g := hw
      simp only [chainDeclare, clearMarks]
      split <;> simp_all [beginEnumeration, sendPacket, setWork]
    · intro _
      rw [hcoder, chainDeclare_board]
      exact ⟨hidle, rfl⟩
    · intro _ r hr
      rw [hcoder] at hr
      cases ((hrec hidle).1).symm.trans hr
    · rw [List.any_eq_false]
      intro p _
      rw [frameTakes, panelEligible, isPlaced, chainDeclare_board]
      simp [clearMarks, declareBoard, all_none_get]
  unfold setBoardBody
  split
  · next hmode =>
    split
    · exact h
    · split
      · exact h
      · have hidle := (h.unsettled.idle_of_bare (by rw [hmode]; rfl)).1
        exact (hdeclared hidle).of_permission (by simp) (by simp) (by simp)
  · next hmode =>
    split
    · exact h
    · next hfree =>
      split
      · exact h
      · have hidle : s.coder.state = .idle := Classical.byContradiction fun hne => hfree ⟨hmode, hne⟩
        exact (hdeclared hidle).of_permission (by simp) (by simp) (by simp)
  · exact h

/-- On a board with geometry, whatever the placements. -/
theorem Unsettled.setPlaces {s t : State} (h : Unsettled s) (hconf : isConfigured s.board.mode = true)
    (hcoder : unmarked t.coder = unmarked s.coder) (hmode : isConfigured t.board.mode = true) (hchain : t.chain = s.chain) : Unsettled t := by
  have hne : s.chain.work ≠ .enumerating := fun hw => by
    rw [h.enumerating hw] at hconf
    cases hconf
  obtain ⟨hidle, hbusy, hnum, hpal, hchainOk, -, hentries⟩ := h
  have hstate : t.coder.state = s.coder.state := (congrArg Coder.state hcoder :)
  have hrecord : t.coder.record = s.coder.record := (congrArg Coder.record hcoder :)
  have hstripes : t.coder.stripes = s.coder.stripes := (congrArg Coder.stripes hcoder :)
  have hnumber : t.coder.number = s.coder.number := (congrArg Coder.number hcoder :)
  have hpalette : t.coder.palette = s.coder.palette := (congrArg Coder.palette hcoder :)
  have htakes : ∀ p, takesPackets t p ↔ takesPackets s p := fun p => takesPackets_congr (fun p => by rw [hchain]) p
  refine ⟨by rwa [hstate, hrecord, hstripes], by rwa [hstate, hrecord], by rwa [hnumber], by rwa [hpalette], ?_, fun hm => ?_, ?_⟩
  · unfold ChainOk at hchainOk ⊢
    rw [hchain, hstate]
    split
    · trivial
    · next hw => exact absurd hw hne
    · next hw =>
      rw [hw] at hchainOk
      obtain ⟨hdel, hout, hrest⟩ := hchainOk
      exact ⟨hdel, fun o ho => (htakes _).mpr (hout o ho), fun it hit => (htakes _).mpr (hrest it hit)⟩
    · trivial
  · rw [hmode] at hm
    cases hm
  · intro hw r hr e he
    refine (htakes _).mpr (hentries (fun o rest g => ?_) r (hrecord ▸ hr) e he)
    exact hchain ▸ hw o rest g

theorem placePanel_deliveryOk {s : State} (h : DeliveryOk s) (hconf : isConfigured s.board.mode = true) (p : Pos) (g : Placement) :
    DeliveryOk (placePanel p g s) := by
  have hplaced : Unsettled (markBoth p { s with board := { s.board with places := s.board.places.set p (some g) } }) :=
    h.unsettled.setPlaces hconf (by simp) (by simpa using hconf) (by simp)
  unfold placePanel
  dsimp only
  refine settle_deliveryOk ?_
  split
  · exact requestRender_unsettled hplaced
  · exact hplaced

theorem setPanelBody_deliveryOk {s : State} (h : DeliveryOk s) (r : RawPanel) : DeliveryOk (setPanelBody r s).1 := by
  unfold setPanelBody
  split
  · exact h
  · next hconf =>
    dsimp only
    split
    · exact h
    · split
      · exact placePanel_deliveryOk h (Bool.eq_true_of_not_eq_false hconf) _ _
      · exact h

@[simp] theorem blankMarks_coder (m : BoardMode) (s : State) : unmarked (blankMarks m s).coder = unmarked s.coder := by
  unfold blankMarks
  split <;> rfl

@[simp] theorem blankMarks_chain (m : BoardMode) (s : State) : (blankMarks m s).chain = s.chain := by
  unfold blankMarks
  split <;> rfl

theorem enterMode_unsettled {s : State} (h : DeliveryOk s) (hconf : isConfigured s.board.mode = true) {m : BoardMode}
    (hm : isConfigured m = true) : Unsettled (enterMode m s) := by
  have hentered : ∀ t : State, t.coder = (blankMarks m s).coder → t.chain = (blankMarks m s).chain → t.board.mode = m → Unsettled t := by
    intro t hc hch hmode
    exact h.unsettled.setPlaces hconf (by rw [hc, blankMarks_coder]) (by rw [hmode]; exact hm) (by rw [hch, blankMarks_chain])
  cases m with
  | unconfigured | enumerating => cases hm
  | blank => rw [enterMode_blank]; exact requestRender_unsettled (hentered _ rfl rfl rfl)
  | test => rw [enterMode_test]; exact requestRender_unsettled (hentered _ rfl rfl rfl)
  | run => rw [enterMode_run]; exact hentered _ rfl rfl rfl
  | hold => rw [enterMode_hold]; exact hentered _ rfl rfl rfl

theorem setModeBody_deliveryOk {s : State} (h : DeliveryOk s) (b : Byte) : DeliveryOk (setModeBody b s).1 := by
  unfold setModeBody
  split
  · exact h
  · next hconf =>
    split
    · exact h
    · next m hm =>
      split
      · dsimp only
        split
        · exact h.transfer rfl rfl rfl rfl fun _ => rfl
        · exact h
      · exact settle_deliveryOk (enterMode_unsettled h (Bool.eq_true_of_not_eq_false hconf) (readMode_configured hm))

theorem setPageBody_deliveryOk {s : State} (h : DeliveryOk s) (i d l f : Byte) (ls : List RawLine) :
    DeliveryOk (setPageBody i d l f ls s).1 := by
  unfold setPageBody
  split
  · exact h
  · split
    · exact h.transfer rfl rfl rfl rfl fun _ => rfl
    · exact h

theorem setCountdownBody_deliveryOk {s : State} (h : DeliveryOk s) (c : RawCountdown) : DeliveryOk (setCountdownBody c s).1 := by
  unfold setCountdownBody
  dsimp only
  split <;> exact h.transfer rfl rfl rfl rfl fun _ => rfl

theorem commandBody_deliveryOk (c : Instr) {s : State} (h : Inv s) : DeliveryOk (commandBody c s).1 := by
  have hd := h.deliveryOk
  cases c with
  | timeMark v d n x => exact hd.of_permission (by simp [commandBody]) (by simp [commandBody]) (by simp [commandBody])
  | batchClose v t => exact hd.of_permission (by simp [commandBody]) (by simp [commandBody]) (by simp [commandBody])
  | setBoard v w hh n => exact setBoardBody_deliveryOk hd _ _ _
  | setMode v m => exact setModeBody_deliveryOk hd m
  | setPanel v p => exact setPanelBody_deliveryOk hd p
  | setPage v i d l f ls => exact setPageBody_deliveryOk hd _ _ _ _ _
  | setCountdown v c => exact setCountdownBody_deliveryOk hd c
  | pushOverlay v o => exact pushOverlayBody_deliveryOk hd o
  | withdrawOverlay v i => exact withdrawBody_deliveryOk hd _
  | resetUnitTables v => exact overlayRender_deliveryOk (hd.transfer rfl rfl rfl rfl fun _ => rfl)
  | setPalette v f es => exact setPaletteBody_deliveryOk hd f es
  | setBrightness v b => exact setBrightnessBody_deliveryOk hd b
  | setChainRules v r f e => exact hd.transfer rfl rfl rfl rfl fun _ => rfl
  | _ => exact hd.of_permission (by simp [commandBody]) (by simp [commandBody]) (by simp [commandBody])

/-! ### The events of the signline and of the chain -/

theorem lineEvent_panelStates {c : Instr} (hc : family c = .line) (s : State) :
    (stateAfter c s).chain.work = s.chain.work ∧ ∀ p, ((stateAfter c s).chain.recs.get p).state = (s.chain.recs.get p).state := by
  have hsame : (stateAfter c s).chain = s.chain → _ := fun h =>
    (⟨by rw [h], fun p => by rw [h]⟩ : (stateAfter c s).chain.work = s.chain.work
      ∧ ∀ p, ((stateAfter c s).chain.recs.get p).state = (s.chain.recs.get p).state)
  cases c <;> cases hc
  case replySent =>
    simp only [stateAfter, exec, execReplySent]
    split
    · exact ⟨rfl, fun _ => rfl⟩
    · next r _ =>
      cases r.carried with
      | panels naks timeouts => exact ⟨rfl, fun p => by simp [actOnSent, reduceTotals]⟩
      | _ => exact ⟨rfl, fun _ => rfl⟩
  all_goals
    refine hsame ?_
    simp only [stateAfter, exec, execReceiveCharacter, execLineIdleSeen, execFrameGap, execLineBreak, execLinkReset, execFrameComplete,
      execRequestTake, execReplyStart, execReplyWithheld]
    (repeat' split) <;> simp

/-- A panel found good is sent packets, and so is every one that was. -/
theorem takesPackets_panelGood {s : State} {p q : Pos} (h : takesPackets s q) : takesPackets (panelGood p s) q := by
  unfold takesPackets panelGood setRec at *
  by_cases hq : q = p
  · subst hq
    simp
  · rwa [get_set_other _ hq]

/-- A record that keeps its state. -/
theorem takesPackets_setRec {s : State} {p q : Pos} {r : PanelRecord} (hr : r.state = (s.chain.recs.get p).state) (h : takesPackets s q) :
    takesPackets (setRec p r s) q := by
  refine (takesPackets_congr (s := s) (fun x => ?_) q).mpr h
  by_cases hx : x = p
  · subst hx
    simp [setRec, hr]
  · simp [setRec, get_set_other _ hx]

/-- A panel given up takes no packet, but every other one that did still does. -/
theorem takesPackets_giveUp {s : State} {p q : Pos} (hne : q ≠ p) (h : takesPackets s q) : takesPackets (giveUp p s) q := by
  have hrecs : (giveUp p s).chain.recs.get q = s.chain.recs.get q := by
    unfold giveUp
    dsimp only
    split <;> simp [setRec, get_set_other _ hne]
  unfold takesPackets
  rwa [hrecs]

theorem frameAck_deliveryOk {s : State} (h : Unsettled s) {o : Outstanding} {rest : List Item} {g : PosSet}
    (hw : s.chain.work = .delivering (some o) rest g) : DeliveryOk (settle (frameAck o rest g s)) := by
  obtain ⟨hstate, -, hrest⟩ : s.coder.state = .delivering ∧ _ ∧ ∀ it ∈ rest, takesPackets s (itemPos it) := by
    have := h.2.2.2.2.1
    rwa [ChainOk, hw] at this
  refine settle_deliveryOk ?_
  unfold frameAck
  dsimp only
  split
  · exact sendNext_unsettled h hstate hrest g
  · refine sendNext_unsettled ?_ ?_ ?_ g
    · exact h.transfer rfl rfl rfl rfl fun _ => takesPackets_panelGood
    · exact hstate
    · exact fun it hit => takesPackets_panelGood (hrest it hit)

/-- A failed answer: the packet goes again to a panel that is sent packets, or the panel's packets are left out. -/
theorem frameFail_unsettled {s : State} (h : Unsettled s) {o : Outstanding} {rest : List Item} {g : PosSet}
    (hw : s.chain.work = .delivering (some o) rest g) : Unsettled (frameFail o rest g s) := by
  obtain ⟨hstate, hout, hrest⟩ : s.coder.state = .delivering ∧ (∀ x, some o = some x → takesPackets s (itemPos x.item))
      ∧ ∀ it ∈ rest, takesPackets s (itemPos it) := by
    have := h.2.2.2.2.1
    rwa [ChainOk, hw] at this
  obtain ⟨hidle, hbusy, hnum, hpal, -, hbare, -⟩ := h
  unfold frameFail
  dsimp only
  split
  · refine ⟨hidle, hbusy, hnum, hpal, ⟨hstate, fun x hx => ?_, hrest⟩, hbare, fun hno => absurd rfl (hno _ _ _)⟩
    cases hx
    exact hout o rfl
  · have hleft : ∀ it ∈ rest.filter (fun it => itemPos it != itemPos o.item), takesPackets (giveUp (itemPos o.item) s) (itemPos it) := by
      intro it hit
      obtain ⟨hit, hne⟩ := List.mem_filter.mp hit
      exact takesPackets_giveUp (by simpa using hne) (hrest it hit)
    have hcoder : unmarked (giveUp (itemPos o.item) s).coder = unmarked s.coder := by
      unfold giveUp
      dsimp only
      split <;> simp
    have hstate' : (giveUp (itemPos o.item) s).coder.state = .delivering := (congrArg Coder.state hcoder :).trans hstate
    have hrecord : (giveUp (itemPos o.item) s).coder.record = s.coder.record := (congrArg Coder.record hcoder :)
    refine ⟨?_, ?_, ?_, ?_, ?_, ?_, ?_⟩
    · simp [hstate']
    · rw [sendNext_coder, hrecord]
      exact fun _ => hbusy (by simp [hstate])
    · rw [sendNext_coder, show (giveUp (itemPos o.item) s).coder.number = s.coder.number from (congrArg Coder.number hcoder :)]
      exact hnum
    · rw [sendNext_coder, show (giveUp (itemPos o.item) s).coder.palette = s.coder.palette from (congrArg Coder.palette hcoder :)]
      exact hpal
    · unfold ChainOk
      rw [sendNext_work]
      refine ⟨by simpa using hstate', fun x hx => ?_, fun it hit => ?_⟩
      · obtain ⟨it, hit, rfl⟩ := Option.map_eq_some_iff.mp hx
        exact (takesPackets_sendNext _ _ _ _).mpr (hleft it (List.mem_of_mem_head? hit))
      · exact (takesPackets_sendNext _ _ _ _).mpr (hleft it (List.mem_of_mem_tail hit))
    · intro hm
      rw [sendNext_board, giveUp_board] at hm
      have := (hbare hm).1
      rw [hstate] at this
      cases this
    · intro hno
      exact absurd (sendNext_work _ _ _) (hno _ _ _)

/-- The next PROBE, or the end of the round: neither is a delivery or an enumeration. -/
theorem probeNext_deliveryOk {s t : State} (h : Unsettled s) (hold : NoDelivery s) (hcoder : unmarked t.coder = unmarked s.coder)
    (hboard : t.board = s.board) (htakes : ∀ p, takesPackets s p → takesPackets t p) (rest : List Pos) :
    DeliveryOk (settle (probeNext rest t)) := by
  have hnew : NoDelivery (probeNext rest t) ∧ (probeNext rest t).chain.work ≠ .enumerating := by
    unfold probeNext
    split <;> exact ⟨fun o rest g => by simp [setWork, sendPacket], by simp [setWork, sendPacket]⟩
  have hrecs : (probeNext rest t).chain.recs = t.chain.recs := by
    unfold probeNext
    split <;> rfl
  refine settle_deliveryOk (h.setHolder hold hnew.1 (by simpa using hcoder) (by simp [hboard]) (by simp [hboard]) (fun he => absurd he hnew.2) ?_)
  intro p hp
  rw [takesPackets, hrecs]
  exact htakes p hp

theorem completeEnumeration_deliveryOk {s : State} (h : Unsettled s) (hw : s.chain.work = .enumerating) (c : Nat) :
    DeliveryOk (settle (completeEnumeration c s)) := by
  obtain ⟨hidle, -⟩ := h.idle_of_bare (by rw [h.enumerating hw]; rfl)
  obtain ⟨hrec, -, hnum, hpal, -, -⟩ := h
  refine settle_deliveryOk ⟨?_, ?_, ?_, ?_, ?_, ?_, ?_⟩
  · simpa using hrec
  · simp [hidle]
  · simpa using hnum
  · simpa using hpal
  · have hidle' : (completeEnumeration c s).chain.work = .idle := by
      unfold completeEnumeration
      dsimp only
      split <;> rfl
    rw [ChainOk, hidle']
    trivial
  · intro hm
    rw [completeEnumeration_board] at hm
    cases hm
  · intro _ r hr
    rw [completeEnumeration_coder] at hr
    cases ((hrec hidle).1).symm.trans hr

theorem chainEvent_deliveryOk {c : Instr} (hc : family c = .chain) {s : State} (h : DeliveryOk s) : DeliveryOk (stateAfter c s) := by
  have hu := h.unsettled
  have hprobing : ∀ {p rest e}, s.chain.work = .probing p rest e → NoDelivery s := fun hw o rest g => by rw [hw]; simp
  cases c <;> cases hc <;>
    simp only [stateAfter, exec, execProbeRoundStart, execEnumerationStart, execEnumerationComplete, execEnumerationTimeout,
      execCodingComplete, execDeliveryStart, execAnswerAck, execAnswerNak, execAnswerTimeout, execDeliveryEnd]
  case probeRoundStart =>
    split
    · next hstart => exact beginRound_deliveryOk h hstart.2.1
    · exact h
  case enumerationStart =>
    split
    · next hstart =>
      obtain ⟨hwait, hidle⟩ := hstart
      have hmode : s.board.mode = .enumerating := by
        rw [enumWaiting, Bool.and_eq_true, beq_iff_eq] at hwait
        exact hwait.1
      refine (deliveryOk_iff _).mpr ⟨?_, ((deliveryOk_iff s).mp h).2⟩
      refine hu.setHolder (fun o rest g => by rw [hidle]; simp) (fun o rest g => ?_) rfl rfl rfl (fun _ => hmode) fun _ => id
      simp [beginEnumeration, sendPacket, setWork]
    · exact h
  case enumerationComplete =>
    split
    · next hw =>
      split
      · split
        · exact h
        · exact completeEnumeration_deliveryOk hu hw _
      · exact h
    · exact h
  case enumerationTimeout =>
    split
    · next hw => exact completeEnumeration_deliveryOk hu hw _
    · exact h
  case codingComplete =>
    split
    · next hcoding => exact completeCoding_deliveryOk hu hcoding
    · exact h
  case deliveryStart =>
    split
    · next hstart =>
      obtain ⟨hstate, hidle, -⟩ := hstart
      refine (deliveryOk_iff _).mpr ⟨beginDelivery_unsettled hu hstate fun o rest g => by rw [hidle]; simp, fun hi => ?_⟩
      rw [beginDelivery_coder, hstate] at hi
      cases hi
    · exact h
  case answerAck =>
    split
    · next hw =>
      split
      · exact frameAck_deliveryOk hu hw
      · exact h
    · next hw =>
      split
      · exact probeNext_deliveryOk hu (hprobing hw) (by simp [recover]) (by simp) (fun p hp => by
          simpa [recover, takesPackets] using takesPackets_panelGood hp) _
      · exact h
    · exact h
  case answerNak =>
    split
    · next hw =>
      split
      · refine settle_deliveryOk (frameFail_unsettled ?_ ?_)
        · exact hu.transfer rfl rfl rfl rfl fun p => takesPackets_setRec rfl
        · exact hw
      · exact h
    · next hw =>
      split
      · exact probeNext_deliveryOk (t := countNak _ s) hu (hprobing hw) rfl rfl (fun p => takesPackets_setRec rfl) _
      · exact h
    · exact h
  case answerTimeout =>
    split
    · next hw =>
      refine settle_deliveryOk (frameFail_unsettled ?_ ?_)
      · exact hu.transfer rfl rfl rfl rfl fun p => takesPackets_setRec rfl
      · exact hw
    · next hw =>
      split
      · refine (deliveryOk_iff _).mpr ⟨?_, ((deliveryOk_iff s).mp h).2⟩
        exact hu.setHolder (hprobing hw) (fun o rest g => by simp [setWork]) rfl rfl rfl (fun he => by cases he) fun _ => id
      · exact probeNext_deliveryOk (t := countTimeout _ s) hu (hprobing hw) rfl rfl (fun p => takesPackets_setRec rfl) _
    · exact h
  case deliveryEnd =>
    split
    · next hw =>
      obtain ⟨-, -, hnum, hpal, hchain, hbare, -⟩ := hu
      have hstate : s.coder.state = .delivering := by
        rw [ChainOk, hw] at hchain
        exact hchain.1
      refine settle_deliveryOk ⟨fun _ => ⟨rfl, rfl⟩, fun hne => absurd rfl hne, hnum, hpal, trivial, fun hm => ?_, fun _ r hr => by cases hr⟩
      exact ⟨rfl, (hbare hm).2⟩
    · exact h

theorem step_deliveryOk {s t : State} (hs : Inv s) (h : step s = .next t) : DeliveryOk t := by
  refine step_keeps (P := DeliveryOk) (fun s hs => hs.deliveryOk)
    (fun v k q l a s h => h.of_layout (by simp) (by simp) (by simp) (by simp)) (fun c s hs => commandBody_deliveryOk c hs)
    (fun b s h => blockTick_deliveryOk b h) (fun w s h => h.of_permission (by simp) (by simp) (by simp))
    (fun s h => overlaySubTick_deliveryOk h) (fun bs x s h => h.transfer rfl rfl rfl rfl fun _ => rfl) (fun c s hc hs => ?_)
    (fun c s hc hs => chainEvent_deliveryOk hc hs.deliveryOk) (fun c s hc hs => ?_) hs h
  · obtain ⟨hwork, hrecs⟩ := lineEvent_panelStates hc s
    refine hs.deliveryOk.transfer ?_ ?_ ?_ hwork hrecs <;> rw [lineEvent_frame hc]
  · cases c <;> cases hc
    · exact hs.deliveryOk.transfer rfl rfl rfl rfl fun _ => rfl
    · exact handBrightness_deliveryOk (hs.deliveryOk.of_layout (by simp) (by simp) (by simp) (by simp)) _

/-- Settles O60, by an invariant that holds just before the start of a frame is tested, and what that test leaves. -/
theorem stepKeepsDelivery : Obligations.StepKeepsDelivery := fun _ _ hs h => step_deliveryOk hs h

end Sys2Proof.Machine

end

/-! The Request Handler's admission and end of a request, power and reset, and the drive levels. -/

section

namespace Sys2Proof.Machine

open Sys2Proof

/-! ### Drive levels (R127) -/

/-- Settles O50: the quotient is one by 128 * 255, with half of that added. -/
theorem driveLevel_rounds : Obligations.DriveLevel := by
  intro c b g
  refine ⟨rfl, Nat.min_le_left _ _, fun hc => ?_, fun hcap => ?_⟩
  · unfold driveLevel
    omega
  · unfold driveLevel at *
    omega

/-! ### Admission (R156, R168) -/

/-- With no request held a request is admitted that its addressing can bring to the part (log 8). -/
theorem admission_free {c : Instr} {s : State} (hreset : s.handler.reset = .none) (hcur : s.handler.current = none) :
    admission c s = if (requestVia c).all (fun v => reaches s.line v.addressing) = true then
      some { seq := s.line.seq, lost := false, state := { s with line := { s.line with seq := s.line.seq + 1 } } } else none := by
  unfold admission
  rw [hreset, hcur]

theorem admission_held {c : Instr} {s : State} {h : Held} (hreset : s.handler.reset = .none) (hcur : s.handler.current = some h) :
    admission c s = if decodeRequest (slotVia h.slot) h.slot.kind h.slot.payload = .request c then
      some { seq := h.slot.seq, lost := h.lost, state := { s with handler := { s.handler with current := none } } } else none := by
  unfold admission
  rw [hreset, hcur]
  rfl

theorem admission_waiting {c : Instr} {s : State} (hreset : s.handler.reset ≠ .none) : admission c s = none := by
  unfold admission
  split <;> simp_all

/-- R156: what a frame's addressing asks of the part. -/
theorem reaches_iff (l : Line) (a : Addressing) :
    reaches l a = true ↔ (a = .unit → unitAddress l.straps ≠ none) ∧ (a = .group → l.groupA ≠ none ∨ l.groupB ≠ none) := by
  cases a <;> simp [reaches, Option.isSome_iff_ne_none]

/-- A request that is not admitted changes nothing (log 9). -/
theorem exec_not_admitted {c : Instr} {v : Via} {s : State} (hv : requestVia c = some v) (ha : admission c s = none) : exec c s = .next s := by
  cases hr : isReadingKind (requestKind c) with
  | false => rw [exec_request hv hr, request, ha]
  | true => rw [exec_reading hv hr, reading, ha]

/-- A reading request by group or broadcast reaches nothing (R170). -/
theorem exec_reading_ignored {c : Instr} {v : Via} {s : State} {a : Admitted} (hv : requestVia c = some v)
    (hr : isReadingKind (requestKind c) = true) (hg : v.addressing ≠ .unit) (ha : admission c s = some a) : exec c s = .next a.state := by
  rw [exec_reading hv hr, reading, ha]
  dsimp only
  split
  · next h => exact absurd h hg
  · rfl

/-- Settles O3, by the two cases of the handler and what a frame's addressing asks. -/
theorem requestAdmission : Obligations.RequestAdmission := by
  refine ⟨fun c s hreset hcur => ⟨fun hv => ?_, fun v hv hno => ?_⟩, fun c s h hreset hcur hdec => ?_, fun c s h => admission_waiting h,
    fun c v s hv ha => exec_not_admitted hv ha, fun c v s a hv hr hg ha => exec_reading_ignored hv hr hg ha⟩
  · rw [admission_free hreset hcur, if_pos]
    cases hc : requestVia c with
    | none => rfl
    | some v => exact (reaches_iff _ _).mpr (hv v hc)
  · rw [admission_free hreset hcur, if_neg]
    rw [hv, Option.all_some, reaches_iff]
    rintro ⟨hunit, hgroup⟩
    rcases hno with ⟨ha, hnone⟩ | ⟨ha, hA, hB⟩
    · exact hunit ha hnone
    · exact (hgroup ha).elim (· hA) (· hB)
  · rw [admission_held hreset hcur, if_pos hdec]

/-! ### The end of a request (R163 to R165) -/

theorem dropReply_eq (c : Carried) (s : State) :
    dropReply c s = if c = .reset then { s with handler := { s.handler with reset := .due } } else s := by
  cases c <;> rfl

/-- A reply cut off by a link reset, or given in SUPPRESSED, is dropped (R160, R165). -/
theorem handOver_dropped {lost : Bool} {s : State} (h : lost = true ∨ s.line.mode = .suppressed) (r : Reply) :
    handOver lost r s = dropReply r.carried s := if_pos h

theorem handOver_joins {lost : Bool} {s : State} (hl : lost = false) (hm : s.line.mode = .normal) (r : Reply) :
    handOver lost r s = setWaiting (insertReply r s.line.waiting) s := if_neg (by simp [hl, hm])

/-- Settles O4, by the place that the reply takes among those waiting. -/
theorem requestEnd : Obligations.RequestEnd := by
  intro v kind seq lost ans s
  refine ⟨fun hv hl hm => ?_, fun hv hdrop => ?_, fun hv fields carried hans => ?_, fun hv code hans => ?_, fun carried => dropReply_eq _ _⟩
  · obtain ⟨before, after, hw, hins, hbefore, hafter⟩ := insertReply_split (buildReply s seq kind v.tag ans) s.line.waiting
    have hfinish : finish v kind seq lost ans s = setWaiting (before ++ buildReply s seq kind v.tag ans :: after) s := by
      rw [finish_unitAddressed v kind seq lost ans s hv, handOver_joins hl hm, hins]
    have hlen : (before ++ buildReply s seq kind v.tag ans :: after).length = s.line.waiting.length + 1 := by
      rw [← hins, insertReply_length]
    refine ⟨before, after, buildReply s seq kind v.tag ans, hw, hbefore, hafter, rfl, fun hroom => ?_, fun first rest hfull hsplit => ?_⟩
    · rw [hfinish]
      cases hsplit : before ++ buildReply s seq kind v.tag ans :: after with
      | nil => simp at hsplit
      | cons first rest =>
        rw [hsplit, List.length_cons] at hlen
        exact setWaiting_room _ _ _ (by simp only [maxWaiting]; omega)
    · rw [hfinish, hsplit]
      rw [hsplit, List.length_cons] at hlen
      exact setWaiting_full _ _ _ (by simp only [maxWaiting]; omega)
  · rw [finish_unitAddressed v kind seq lost ans s hv, handOver_dropped hdrop]
    rfl
  · rw [hans, finish_groupDone v kind seq lost fields carried s hv]
  · rw [hans, finish_groupRefused v kind seq lost code s hv]
    rfl

/-! ### Power and reset (R155, R168, R173) -/

theorem all_false_get (p : Pos) : (Per8.all false).get p = false := by fin_cases p <;> rfl

theorem all_panelRecord_get (r : PanelRecord) (p : Pos) : (Per8.all r).get p = r := by fin_cases p <;> rfl

/-- Settles O5: every item of the power-on state is the one its table gives. -/
theorem powerOnState : Obligations.PowerOnState := by
  intro st s
  refine ⟨State.fresh st .powerOn s.pending, rfl, rfl, ?_⟩
  exact ⟨rfl, rfl, rfl, rfl, rfl, rfl, rfl, rfl, rfl, rfl, all_none_get, pageAt_none, rfl, rfl, rfl, rfl, rfl, rfl, rfl, rfl, rfl, rfl, rfl, rfl,
    rfl, rfl, fun p => ⟨all_false_get p, all_false_get p⟩, rfl, rfl, rfl, all_panelRecord_get _, rfl, rfl, rfl, rfl, rfl, rfl, rfl, rfl, rfl,
    rfl, rfl, rfl, rfl, rfl, rfl, rfl, rfl, rfl, rfl, rfl, rfl, rfl, rfl, rfl⟩

/-- RESET_UNIT ALL, admitted, waits for its reply. -/
theorem resetAllBody_admitted {c : Instr} {s : State} {a : Admitted} (h : admission c s = some a) :
    resetAllBody a.state = ({ a.state with handler := { current := none, reset := .reply } }, .done [] .reset) := by
  have hcur : a.state.handler.current = none := by rw [(admission_frame h).1]
  simp [resetAllBody, hcur]

theorem admission_state_mode {c : Instr} {s : State} {a : Admitted} (h : admission c s = some a) : a.state.line.mode = s.line.mode := by
  rw [(admission_frame h).1]

/-- Settles O6, scope by scope. -/
theorem unitResets : Obligations.UnitResets := by
  refine ⟨fun v s a ha => ⟨_, rfl, ?_⟩, fun v s a ha => ⟨fun hv => ?_, fun hdrop => ?_⟩, fun st s => ⟨fun hdue => ?_, fun hno => ?_⟩⟩
  · rw [← admission_state_table ha, ← admission_state_batch ha, ← admission_state_unit ha, ← admission_state_board ha]
    exact request_answered ha rfl
  · exact request_answered ha (resetAllBody_admitted ha)
  · have hexec : exec (.resetUnitAll v) s = .next (finish v (requestKind (.resetUnitAll v)) a.seq a.lost (.done [] .reset)
        { a.state with handler := { current := none, reset := .reply } }) := request_answered ha (resetAllBody_admitted ha)
    rw [hexec]
    congr 1
    by_cases hv : v.addressing = .unit
    · rw [finish_unitAddressed _ _ _ _ _ _ hv, handOver_dropped]
      · rfl
      · exact (hdrop.resolve_left fun h => h hv).imp_right fun hm => (admission_state_mode ha).trans hm
    · rw [finish_groupDone _ _ _ _ _ _ _ hv]
      rfl
  · refine ⟨unitReset st s, State.fresh st .powerOn s.pending, ?_, rfl, rfl, rfl, rfl, ?_, rfl⟩
    · change Host.Outcome.next (if s.handler.reset = .due then unitReset st s else s) = _
      rw [if_pos hdue]
    · exact Option.map_eq_none_iff
  · change Host.Outcome.next (if s.handler.reset = .due then unitReset st s else s) = _
    rw [if_neg hno]

end Sys2Proof.Machine

end

/-! The internal tick, and what the supervisor, the batch stage, the clock and the permission do at it. -/

section

namespace Sys2Proof.Machine

open Sys2Proof

/-! ### The blocks that a tick reaches (R52) -/

/-- Adding blocks once each: those not there yet follow, in order. -/
theorem foldl_addOnce {bs acc : List TickBlock} (hbs : bs.Nodup) :
    bs.foldl (fun acc b => if acc.contains b then acc else acc ++ [b]) acc = acc ++ bs.filter fun b => !acc.contains b := by
  induction bs generalizing acc with
  | nil => simp
  | cons b bs ih =>
    obtain ⟨hb, hbs⟩ := List.nodup_cons.mp hbs
    by_cases hmem : b ∈ acc
    · rw [List.foldl_cons, if_pos (by simpa using hmem), ih hbs]
      simp [hmem]
    · have hrest : (bs.filter fun c => !(acc ++ [b]).contains c) = bs.filter fun c => !acc.contains c := by
        refine List.filter_congr fun c hc => ?_
        have hcb : c ≠ b := fun h => hb (h ▸ hc)
        simp [hcb]
      rw [List.foldl_cons, if_neg (by simpa using hmem), ih hbs, hrest]
      simp [hmem]

theorem completeOrder_eq {order : List TickBlock} (h : order.Nodup) :
    completeOrder order = order ++ defaultOrder.filter fun b => !order.contains b := by
  have hnamed : order.filter (fun b => !([] : List TickBlock).contains b) = order := List.filter_eq_self.mpr (by simp)
  rw [completeOrder, List.foldl_append, foldl_addOnce h, hnamed, List.nil_append, foldl_addOnce (by decide)]

theorem mem_defaultOrder (b : TickBlock) : b ∈ defaultOrder := by cases b <;> decide

theorem mem_completeOrder {order : List TickBlock} (h : order.Nodup) (b : TickBlock) : b ∈ completeOrder order := by
  rw [completeOrder_eq h, List.mem_append, List.mem_filter]
  by_cases hb : b ∈ order
  · exact .inl hb
  · exact .inr ⟨mem_defaultOrder b, by simpa using hb⟩

theorem completeOrder_nodup {order : List TickBlock} (h : order.Nodup) : (completeOrder order).Nodup := by
  rw [completeOrder_eq h]
  refine List.nodup_append.mpr ⟨h, List.Nodup.filter _ (by decide), fun a ha b hb hab => ?_⟩
  have := (List.mem_filter.mp hb).2
  simp [← hab, ha] at this

/-- Settles O8, by the order in which a tick reaches the blocks. -/
theorem internalTickReachesEachBlockOnce : Obligations.InternalTickReachesEachBlockOnce := by
  refine ⟨fun s => rfl, fun order s h => ⟨tickBlocks order s, (completeOrder_nodup h).filter _, fun b => ?_, ?_, rfl⟩⟩
  · simp [tickBlocks, mem_completeOrder h b]
  · rw [tickBlocks, completeOrder_eq h, List.filter_append]
    exact List.prefix_append _ _

/-- A block that has still to take the coming tick takes it ahead where its event happens (log 3). -/
theorem takeAhead_happens {b : TickBlock} {happens : State → Bool} {s : State} (hb : b ∉ s.tickTaken) (hh : happens s = true)
    (htaken : (blockTick b s).tickTaken = s.tickTaken) :
    takeAhead b happens s = { blockTick b s with tickTaken := b :: s.tickTaken } := by
  rw [← htaken]
  exact if_pos ⟨by simpa using hb, hh⟩

/-! ### The supervisor (R33) -/

theorem supPaused_eq_false {s : State} (h : s.board.mode ≠ .hold ∨ s.sup.hold = .run) : supPaused s = false := by
  rcases h with h | h
  · simp [supPaused, beq_eq_false_iff_ne.mpr h]
  · rw [supPaused, h, Bool.and_eq_false_iff]
    exact .inr rfl

theorem supTick_idle {s : State} (h : s.sup.state ≠ .armed ∨ supPaused s = true) : supTick s = s := if_pos h

theorem supTick_counts {s : State} (ha : s.sup.state = .armed) (hp : supPaused s = false) (hr : 2 ≤ s.sup.remaining) :
    supTick s = { s with sup := { s.sup with remaining := s.sup.remaining - 1 } } := by
  rw [supTick, if_neg (by simp [ha, hp]), if_neg (by omega)]

theorem supTick_expires {s : State} (ha : s.sup.state = .armed) (hp : supPaused s = false) (hr : s.sup.remaining ≤ 1) :
    supTick s = expire causeCountdown s := by
  rw [supTick, if_neg (by simp [ha, hp]), if_pos hr]

/-- Settles O10, by the cases of the supervisor's tick. -/
theorem supervisorAtTick : Obligations.SupervisorAtTick := by
  refine ⟨fun s h => supTick_idle (.inl h), fun s _ hm hh => supTick_idle (.inr ?_), fun s ha hp hr => ?_, fun s ha hp hr => ⟨?_, fun htaken => ?_⟩⟩
  · rw [supPaused, hm, hh]
    rfl
  · exact supTick_counts ha (supPaused_eq_false hp) hr
  · exact supTick_expires ha (supPaused_eq_false hp) (by omega)
  · have hends : supEnds s = true := by simp [supEnds, ha, supPaused_eq_false hp, hr]
    exact congrArg Host.Outcome.next (takeAhead_happens htaken hends (supTick_tickTaken s))

/-! ### The windows of a batch (R24) -/

theorem windowEnds_iff (b : Batch) : windowEnds b = true ↔ b.gap ≤ 1 ∨ b.total ≤ 1 := by simp [windowEnds]

theorem batchTick_closed {s : State} (h : s.batch.stage = none) : batchTick s = s := by simp [batchTick, h]

theorem batchTick_open {s : State} {b : Batch} (h : s.batch.stage = some b) :
    batchTick s = if windowEnds b = true then offer .batchWindow (windowArg b) (setStage none s)
      else setStage (some { b with gap := b.gap - 1, total := b.total - 1 }) s := by
  unfold batchTick
  rw [h]

/-- Settles O11, by whether a window of the open batch ends. -/
theorem batchWindowsAtTick : Obligations.BatchWindowsAtTick := by
  refine ⟨fun s h => batchTick_closed h, fun s b h hg ht => ?_, fun s b h hg ht hend => ?_⟩
  · have hopen : windowEnds b ≠ true := by rw [Ne, windowEnds_iff]; omega
    exact (batchTick_open h).trans (if_neg hopen)
  · have hends : windowEnds b = true := (windowEnds_iff b).mpr (by omega)
    have harg : windowArg b = b.tag + if b.gap = 1 then 0 else 256 := by
      simp only [windowArg, show b.gap ≤ 1 ↔ b.gap = 1 by omega]
      split <;> rfl
    refine ⟨?_, fun htaken => congrArg Host.Outcome.next (takeAhead_happens htaken ?_ (batchTick_tickTaken s))⟩
    · rw [← harg]
      exact (batchTick_open h).trans (if_pos hends)
    · rw [h]
      exact hends

/-! ### The age of the last mark (R41) -/

theorem clockTick_unset {s : State} (h : s.clock.state = .unset) : clockTick s = s := if_pos h

theorem clockTick_coasts {s : State} (h : s.clock.state ≠ .unset) (hc : coasts s.clock = true) :
    clockTick s = offer .clockCoasting (aged s.clock).age (setClock { aged s.clock with state := .coasting } (setClock (aged s.clock) s)) := by
  rw [clockTick, if_neg h]
  exact if_pos hc

theorem clockTick_lapses {s : State} (h : s.clock.state ≠ .unset) (hc : coasts s.clock = false) (hl : lapsesByAge s.clock = true) :
    clockTick s = lapse causeAge (setClock (aged s.clock) s) := by
  rw [clockTick, if_neg h]
  exact (if_neg (by simp [hc])).trans (if_pos hl)

theorem clockTick_ages {s : State} (h : s.clock.state ≠ .unset) (hc : coasts s.clock = false) (hl : lapsesByAge s.clock = false) :
    clockTick s = setClock (aged s.clock) s := by
  rw [clockTick, if_neg h]
  exact (if_neg (by simp [hc])).trans (if_neg (by simp [hl]))

theorem coasts_iff (c : Clock) : coasts c = true ↔ c.state = .locked ∧ c.coastAfter ≤ min 65535 (c.age + 1) := by
  simp [coasts, aged, satInc]

theorem lapsesByAge_iff (c : Clock) : lapsesByAge c = true ↔ c.state = .coasting ∧ c.coastAfter + c.lapseAfter ≤ min 65535 (c.age + 1) := by
  simp [lapsesByAge, aged, satInc]

/-- Settles O12, by the clock state and the bounds of the age. -/
theorem clockAgesAtTick : Obligations.ClockAgesAtTick := by
  refine ⟨fun s h => clockTick_unset h, fun s h hage => ?_, fun s h hage => ?_, fun s h => ?_⟩
  · have hc := (coasts_iff _).mpr ⟨h, hage⟩
    exact ⟨clockTick_coasts (by simp [h]) hc, fun htaken => congrArg Host.Outcome.next (takeAhead_happens htaken hc (clockTick_tickTaken s))⟩
  · have hl := (lapsesByAge_iff _).mpr ⟨h, hage⟩
    have hc : coasts s.clock = false := Bool.eq_false_of_not_eq_true fun hc => by
      have := ((coasts_iff _).mp hc).1
      rw [h] at this
      cases this
    exact ⟨clockTick_lapses (by simp [h]) hc hl, fun htaken => congrArg Host.Outcome.next (takeAhead_happens htaken hl (clockTick_tickTaken s))⟩
  · have hc : coasts s.clock = false := Bool.eq_false_of_not_eq_true fun hc => by
      obtain ⟨hstate, hage⟩ := (coasts_iff _).mp hc
      simp only [hstate, reduceCtorEq, false_and, false_or, or_false, true_and] at h
      omega
    have hl : lapsesByAge s.clock = false := Bool.eq_false_of_not_eq_true fun hl => by
      obtain ⟨hstate, hage⟩ := (lapsesByAge_iff _).mp hl
      simp only [hstate, reduceCtorEq, false_and, false_or, true_and] at h
      omega
    refine clockTick_ages (fun hu => ?_) hc hl
    simp [hu] at h

/-! ### The permission (R50) -/

/-- Settles O13: the permission's three conditions, and the two cases of a recomputation. -/
theorem permissionRecomputed : Obligations.PermissionRecomputed := by
  intro s
  refine ⟨?_, fun h => recompute_of_same h, fun h => ?_⟩
  · simp [permission, and_assoc, imp_iff_not_or]
  · rw [recompute_of_changed h, ← blankTimes_eq]
    rfl

end Sys2Proof.Machine

end

/-! Overlay lifetimes, the sub-tick, the page cycle, the composer and the probe rounds at a tick. -/

section

namespace Sys2Proof.Machine

open Sys2Proof

/-! ### The choice of a page (R64) -/

theorem getElem_cyclic (start : Fin 4) {i : Nat} (h : i < (cyclic start).length) : (cyclic start)[i] = start + ⟨i, h⟩ := by
  have hi : i < 4 := h
  interval_cases i <;> simp [cyclic]

/-- The first index in cyclic order with a property. -/
theorem find?_cyclic {P : Fin 4 → Bool} {start k : Fin 4} (hk : P (start + k) = true) (hbefore : ∀ j < k, P (start + j) = false) :
    (cyclic start).find? P = some (start + k) := by
  have hlen : k.val < (cyclic start).length := k.isLt
  refine List.find?_eq_some_iff_getElem.mpr ⟨hk, k.val, hlen, getElem_cyclic start hlen, fun j hj => ?_⟩
  rw [getElem_cyclic start (hj.trans hlen), hbefore ⟨j, hj.trans k.isLt⟩ hj]
  rfl

/-- A page at this index is defined and not passed over. -/
def shownPage (s : State) (i : Fin 4) : Bool :=
  match pageAt s.board.pages i with
  | some p => !passedOver s p
  | none => false

theorem shownPage_of_page {s : State} {i : Fin 4} {p : Page} (h : pageAt s.board.pages i = some p) : shownPage s i = !passedOver s p := by
  simp [shownPage, h]

theorem shownPage_eq_false {s : State} {i : Fin 4} (h : ∀ p, pageAt s.board.pages i = some p → passedOver s p = true) :
    shownPage s i = false := by
  unfold shownPage
  split
  · next p hp => rw [h p hp]; rfl
  · rfl

theorem choice_of_shown {s : State} {start i : Fin 4} (h : (cyclic start).find? (shownPage s) = some i) : choice s start = some i := by
  unfold choice
  split
  · next j hj => exact hj.symm.trans h
  · next hnone => cases hnone.symm.trans h

theorem choice_of_none_shown {s : State} {start : Fin 4} (h : (cyclic start).find? (shownPage s) = none) :
    choice s start = (cyclic 0).find? fun i => (pageAt s.board.pages i).isSome := by
  unfold choice
  split
  · next j hj => cases hj.symm.trans h
  · rfl

theorem isDeparture_iff (l : LineDef) : isDeparture l = true ↔ ∃ f n c x y z, l.kind = .departure f n c x y z := by
  unfold isDeparture
  split
  · next h => simp [h]
  · next h => exact ⟨fun hf => (by cases hf), fun ⟨f, n, c, x, y, z, hk⟩ => absurd hk (h f n c x y z)⟩

theorem selectsNone_iff (s : State) (l : LineDef) :
    (!isDeparture l || selectsNone s l) = true ↔
      ∀ f n c x y z, l.kind = .departure f n c x y z → selectRecord f n c s.table.records = none := by
  cases hk : l.kind with
  | departure f n c x y z =>
    simp only [isDeparture, selectsNone, hk, Bool.not_true, Bool.false_or, Option.isNone_iff_eq_none]
    exact ⟨fun h _ _ _ _ _ _ heq => (by cases heq; exact h), fun h => h _ _ _ _ _ _ rfl⟩
  | _ => simp [isDeparture, hk]

/-- R64: when a page is passed over. -/
theorem passedOver_iff (s : State) (p : Page) :
    passedOver s p = true ↔ p.skip = true ∧ (∃ l ∈ p.lines, ∃ f n c x y z, l.kind = .departure f n c x y z)
      ∧ ∀ l ∈ p.lines, ∀ f n c x y z, l.kind = .departure f n c x y z → selectRecord f n c s.table.records = none := by
  simp only [passedOver, Bool.and_eq_true, List.any_eq_true, List.all_eq_true, isDeparture_iff, selectsNone_iff, and_assoc]

/-- Settles O18, by the first index in cyclic order. -/
theorem pageChoice : Obligations.PageChoice := by
  intro s start
  refine ⟨choice_eq_none_iff s start, fun k p hp hshown hbefore => ?_, fun hall i p hp hlow => ?_, passedOver_iff s⟩
  · refine choice_of_shown (find?_cyclic ?_ fun j hj => shownPage_eq_false fun q hq => hbefore j q hj hq)
    rw [shownPage_of_page hp, hshown]
    rfl
  · have hnone : (cyclic start).find? (shownPage s) = none :=
      List.find?_eq_none.mpr fun j _ => by simp [shownPage_eq_false (hall j)]
    have hfind : (cyclic 0).find? (fun i => (pageAt s.board.pages i).isSome) = some (0 + i) :=
      find?_cyclic (by simp [hp]) fun j hj => by simp [hlow j hj]
    rw [choice_of_none_shown hnone, hfind, zero_add]

/-! ### The composer's work (R52, R65, R66) -/

/-- A page choice leaves what the building of a line reads. -/
theorem buildContent_choosePage (i : Fin 4) (s : State) (k : LineKind) : buildContent (choosePage i s) k = buildContent s k := by
  cases k <;> rfl

theorem buildLines_content (s : State) (ls : List LineDef) (old : List LineRecord) :
    (buildLines s ls old).map (fun r => r.content) = ls.map fun l => buildContent s l.kind := by
  induction ls generalizing old with
  | nil => rfl
  | cons l ls ih => rw [buildLines, List.map_cons, ih, buildLine_content, List.map_cons]

/-- The marks of the records built: those of the last render stand where it covered the line. -/
theorem buildLines_marks {s : State} {ls : List LineDef} {old : List LineRecord} {k : Nat} {r : LineRecord}
    (h : (buildLines s ls old)[k]? = some r) :
    (∀ o, old[k]? = some o → o.covered = true → r.covered = true
        ∧ r.drawn = match r.content with | .band _ => o.drawn | c => ownPhrase c)
      ∧ ((∀ o, old[k]? = some o → o.covered = false) → r.covered = false ∧ r.drawn = ownPhrase r.content) := by
  rw [getElem?_buildLines] at h
  obtain ⟨l, -, rfl⟩ := Option.map_eq_some_iff.mp h
  refine ⟨fun o ho hc => ⟨?_, (buildLine_drawn s l old[k]?).1 o ho hc⟩, fun hno => ⟨?_, (buildLine_drawn s l old[k]?).2 hno⟩⟩
  · simp [ho, hc]
  · cases ho : old[k]? with
    | none => simp
    | some o => simp [hno o ho]

/-- A page's records built from what is held of it. -/
theorem buildPage_eq {s : State} {i : Fin 4} {p : Page} (hi : s.board.current = some i) (hp : pageAt s.board.pages i = some p) :
    buildPage s = { s with board := { s.board with lines := some (buildLines s p.lines (heldLines s.board)), kept := [] } } := by
  unfold buildPage
  rw [currentPage_of_current hi, hp]

theorem composerTick_run {s : State} (h : s.board.mode = .run) :
    composerTick s = settle (requestRender (buildPage (pageStep (evaluate true s)))) := by
  unfold composerTick
  rw [h]

theorem composerTick_other {s : State} (hu : s.board.mode ≠ .unconfigured) (hr : s.board.mode ≠ .run) : composerTick s = evaluate true s := by
  unfold composerTick
  split
  · next h => exact absurd h hu
  · next h => exact absurd h hr
  · rfl

/-- The page cycle's step, with the page current: it waits for the records, counts the dwell, or chooses the next page (R65). -/
theorem pageStep_current {s : State} {i : Fin 4} (hi : s.board.current = some i) :
    pageStep s = if s.board.lines = none then s else if s.board.dwell ≤ 1 then choosePage (i + 1) s
      else { s with board := { s.board with dwell := s.board.dwell - 1 } } := by
  unfold pageStep
  rw [hi]

theorem pageStep_none {s : State} (h : s.board.current = none) : pageStep s = s := by
  unfold pageStep
  rw [h]

theorem buildPage_none {s : State} (h : s.board.current = none) : buildPage s = s := by
  simp [buildPage, currentPage, h]

theorem buildLines_congr {s t : State} (h : ∀ k, buildContent s k = buildContent t k) (ls : List LineDef) (old : List LineRecord) :
    buildLines s ls old = buildLines t ls old := by
  induction ls generalizing old with
  | nil => rfl
  | cons l ls ih => rw [buildLines, buildLines, ih, buildLine, buildLine, h]

/-- The same page stays: its records are built from those held of it. -/
theorem buildPage_same {s : State} {i : Fin 4} {p : Page} (hi : s.board.current = some i) (hp : pageAt s.board.pages i = some p) (d : Nat) :
    buildPage { s with board := { s.board with dwell := d } } = { s with
      board := { s.board with current := some i, dwell := d, lines := some (buildLines s p.lines (s.board.lines.getD s.board.kept)), kept := [],
                              rendered := s.board.rendered && decide (i = i) } } := by
  have hbuild := buildLines_congr (s := { s with board := { s.board with dwell := d } }) (t := s) fun k => by cases k <;> rfl
  refine (buildPage_eq (s := { s with board := { s.board with dwell := d } }) hi hp).trans ?_
  rw [hbuild]
  simp [← hi, heldLines]

/-- The next page chosen: its records are built, from those held where it is the page that was current. -/
theorem buildPage_chosen {s : State} {i j : Fin 4} {q : Page} (hi : s.board.current = some i) (hc : choice s (i + 1) = some j)
    (hq : pageAt s.board.pages j = some q) :
    buildPage (choosePage (i + 1) s) = { s with
      board := { s.board with current := some j, dwell := q.dwell,
                              lines := some (buildLines s q.lines (if j = i then s.board.lines.getD s.board.kept else [])), kept := [],
                              rendered := s.board.rendered && decide (j = i) } } := by
  have hbuild := buildLines_congr (buildContent_choosePage (i + 1) s)
  have hheld : heldLines (choosePage (i + 1) s).board = if j = i then s.board.lines.getD s.board.kept else [] := by
    change (if choice s (i + 1) = s.board.current then heldLines s.board else []) = _
    rw [hc, hi]
    simp only [Option.some.injEq]
    rfl
  refine (buildPage_eq (s := choosePage (i + 1) s) hc hq).trans ?_
  rw [hbuild, hheld]
  simp [choosePage, hc, hq, hi]

/-- Settles O17, by the mode and, in RUN, by what the page cycle's step does. -/
theorem composerAtTick : Obligations.ComposerAtTick := by
  refine ⟨fun s h => ?_, fun s hu hr => composerTick_other hu hr, fun s h hnone => ?_, fun s i p h hi hp => ?_⟩
  · change composerTick s = s
    unfold composerTick
    rw [h]
  · change composerTick s = _
    rw [composerTick_run h, pageStep_none (s := evaluate true s) hnone, buildPage_none (s := evaluate true s) hnone]
  · have htick : blockTick .composer s = _ := composerTick_run h
    rw [pageStep_current (s := evaluate true s) hi, evaluate_board] at htick
    have hexpiry : s.board.lines ≠ none → s.board.dwell ≤ 1 → TickBlock.composer ∉ s.tickTaken →
        exec .dwellExpiry s = .next { blockTick .composer s with tickTaken := .composer :: s.tickTaken } := by
      intro hl hd htaken
      have hends : dwellEnds s = true := by
        simp [dwellEnds, h, hi, hd, Option.isSome_iff_ne_none, hl]
      exact congrArg Host.Outcome.next (takeAhead_happens htaken hends (composerTick_tickTaken s))
    by_cases hl : s.board.lines = none
    · rw [if_pos hl] at htick
      have hbuilt := buildPage_same (s := evaluate true s) hi hp s.board.dwell
      exact ⟨i, p, s.board.dwell, _, s.board.lines.getD s.board.kept, hp, buildLines_content _ _ _, (if_pos rfl).symm, fun k r hr => buildLines_marks hr,
        fun _ => ⟨rfl, rfl⟩, fun hne => absurd hl hne, fun hne => absurd hl hne, htick.trans (congrArg _ (congrArg _ hbuilt)), hexpiry⟩
    · rw [if_neg hl] at htick
      by_cases hd : s.board.dwell ≤ 1
      · rw [if_pos hd] at htick
        obtain ⟨j, hj⟩ : ∃ j, choice (evaluate true s) (i + 1) = some j := by
          cases hc : choice (evaluate true s) (i + 1) with
          | some j => exact ⟨j, rfl⟩
          | none =>
            have := (choice_eq_none_iff _ _).mp hc i
            rw [evaluate_board, hp] at this
            cases this
        obtain ⟨q, hq⟩ := choice_defined hj
        have hbuilt := buildPage_chosen (s := evaluate true s) hi hj hq
        exact ⟨j, q, q.dwell, _, _, hq, buildLines_content _ _ _, rfl, fun k r hr => buildLines_marks hr, fun hn => absurd hn hl,
          fun _ h2 => absurd hd (by omega), fun _ _ => ⟨hj, rfl⟩, htick.trans (congrArg _ (congrArg _ hbuilt)), hexpiry⟩
      · rw [if_neg hd] at htick
        have hbuilt := buildPage_same (s := evaluate true s) hi hp (s.board.dwell - 1)
        exact ⟨i, p, s.board.dwell - 1, _, s.board.lines.getD s.board.kept, hp, buildLines_content _ _ _, (if_pos rfl).symm,
          fun k r hr => buildLines_marks hr, fun hn => absurd hn hl, fun _ _ => ⟨rfl, rfl⟩, fun _ h1 => absurd h1 hd,
          htick.trans (congrArg _ (congrArg _ hbuilt)), hexpiry⟩

/-! ### Overlay lifetimes (R94) -/

theorem offerAll_map {α : Type} (k : NoticeKind) (f : α → Nat) (xs : List α) (s : State) :
    offerAll (xs.map fun x => (k, f x)) s = { s with notices := xs.foldl (fun q x => offerTo q k (f x) s.unit.uptime) s.notices } := by
  induction xs generalizing s with
  | nil => rfl
  | cons x xs ih => exact ih (offer k (f x) s)

theorem overlayRender_run {s : State} (h : s.board.mode = .run) : overlayRender s = settle (requestRender s) := if_pos h
theorem overlayRender_other {s : State} (h : s.board.mode ≠ .run) : overlayRender s = s := if_neg h

/-- The stack counted down, with the notices of the records that end. -/
theorem overlayTick_eq (s : State) : ∀ u : State,
    u = { s with
      overlays := { records := (s.overlays.records.filter fun o => o.remaining ≠ 1).map fun o => { o with remaining := o.remaining - 1 },
                    shownSince := if (s.overlays.records.head?.map fun o => o.remaining) = some 1 then 0 else s.overlays.shownSince },
      notices := (s.overlays.records.filter fun o => o.remaining = 1).foldl
        (fun q o => offerTo q .overlayExpired o.id s.unit.uptime) s.notices } →
    overlayTick s = if (s.overlays.records.head?.map fun o => o.remaining) = some 1 then overlayRender u else u := by
  rintro u rfl
  have htop : (((s.overlays.records.head?.map expiresNow) == some true) = true) ↔ (s.overlays.records.head?.map fun o => o.remaining) = some 1 := by
    cases s.overlays.records with
    | nil => simp
    | cons o os => simp [expiresNow]
  have hkept : (s.overlays.records.filter fun o => !expiresNow o) = s.overlays.records.filter fun o => o.remaining ≠ 1 :=
    List.filter_congr fun o _ => by simp [expiresNow, beq_eq_decide]
  have hout : s.overlays.records.filter expiresNow = s.overlays.records.filter fun o => o.remaining = 1 :=
    List.filter_congr fun o _ => by simp [expiresNow, beq_eq_decide]
  simp only [overlayTick, htop, hkept, hout, offerAll_map]
  rfl

/-- Settles O15, by whether the record on top ends. -/
theorem overlayLifetimesAtTick : Obligations.OverlayLifetimesAtTick := by
  intro s
  refine ⟨_, rfl, fun hm htop => ?_, fun hno => ?_, fun hends htaken => ?_⟩
  · refine (overlayTick_eq s _ rfl).trans ?_
    rw [if_pos htop]
    exact overlayRender_run hm
  · refine (overlayTick_eq s _ rfl).trans ?_
    split
    · next htop => exact overlayRender_other (hno.resolve_right fun h => h htop)
    · rfl
  · have hany : s.overlays.records.any expiresNow = true := by
      simpa [expiresNow] using hends
    exact congrArg Host.Outcome.next (takeAhead_happens htaken hany (overlayTick_tickTaken s))

/-! ### The probe count (R139, R140) -/

theorem faultedPositions_eq (s : State) : faultedPositions s = Pos.all.filter fun p => decide ((s.chain.recs.get p).state = .faulted) :=
  List.filter_congr fun p _ => by rw [beq_eq_decide]

theorem beginRound_some {s : State} {p : Pos} {rest : List Pos} (h : faultedPositions s = p :: rest) :
    beginRound s = { s with chain := { s.chain with
      probeCount := 0, roundDue := false, work := .probing p rest false, out := some (.probe p) } } := by
  unfold beginRound
  rw [h]
  rfl

theorem beginRound_none {s : State} (h : faultedPositions s = []) (hw : s.chain.work = .idle) :
    beginRound s = { s with chain := { s.chain with probeCount := 0, roundDue := false } } := by
  unfold beginRound
  rw [h]
  simp [probeNext, setWork, hw]

theorem enumWaiting_eq_false {s : State} (h : s.board.mode ≠ .enumerating) : enumWaiting s = false := by
  simp [enumWaiting, beq_eq_false_iff_ne.mpr h]

/-- Settles O21, by the count, the FAULTED positions and what holds the chain. -/
theorem probeRounds : Obligations.ProbeRounds := by
  intro s n faulted hn hf
  have hnext : probeCountNext s.chain = n := hn.symm
  rw [← faultedPositions_eq] at hf
  have htick : blockTick .chain s = chainTick s := rfl
  unfold chainTick at htick
  rw [hnext] at htick
  dsimp only at htick
  refine ⟨fun hlt => htick.trans (if_pos hlt), fun hle hnone => ?_, fun hle hsome hw => ?_, fun p rest hle hsome hw hm => ?_, fun hle htaken => ?_,
    fun p rest hd hw hm hsome => ?_, fun hd hw hm hnone => ?_⟩
  · rw [if_neg (Nat.not_lt.mpr hle), if_pos (hf ▸ hnone)] at htick
    exact htick
  · rw [if_neg (Nat.not_lt.mpr hle), if_neg (hf ▸ hsome), if_neg fun h => hw h.1] at htick
    exact htick
  · have hne : faultedPositions s ≠ [] := by rw [← hf, hsome]; simp
    rw [if_neg (Nat.not_lt.mpr hle), if_neg hne, if_pos ⟨hw, enumWaiting_eq_false hm⟩] at htick
    exact htick.trans (beginRound_some (hf.symm.trans hsome))
  · refine congrArg Host.Outcome.next (takeAhead_happens htaken ?_ (chainTick_tickTaken s))
    simpa [hnext] using hle
  · have hstart := beginRound_some (s := s) (hf.symm.trans hsome)
    exact (congrArg Host.Outcome.next (if_pos ⟨hd, hw, enumWaiting_eq_false hm⟩)).trans (congrArg _ hstart)
  · have hstart := beginRound_none (s := s) (hf.symm.trans hnone) hw
    exact (congrArg Host.Outcome.next (if_pos ⟨hd, hw, enumWaiting_eq_false hm⟩)).trans (congrArg _ hstart)

end Sys2Proof.Machine

end

/-! The reading requests' replies, field by field. -/

section

namespace Sys2Proof.Machine

open Sys2Proof

/-! ### Reading requests (R170, R171) -/

/-- A unit-addressed reading request is answered with its report on the state before, where the report does not read the handler or the
next frame's number. -/
theorem reading_reported {v : Via} {c : Instr} {report : State → Answer} {s : State} {a : Admitted} (hv : v.addressing = .unit)
    (ha : admission c s = some a)
    (hr : ∀ seq h, report { s with line := { s.line with seq := seq }, handler := h } = report s) :
    reading v c report s = answered v c a (report s) a.state := by
  have hreport : report a.state = report s := by
    rw [(admission_frame ha).1]
    exact hr _ _
  rw [reading_of_admit ha hv, hreport, answered]

@[simp] theorem length_num1 (n : Nat) : (num1 n).length = 1 := rfl
@[simp] theorem length_num2 (n : Nat) : (num2 n).length = 2 := rfl
@[simp] theorem length_num3 (n : Nat) : (num3 n).length = 3 := rfl
@[simp] theorem length_flag1 (b : Bool) : (flag1 b).length = 1 := rfl
@[simp] theorem length_posAll : Pos.all.length = 8 := rfl
@[simp] theorem length_noticeBytes (n : Notice) : (noticeBytes n).length = 6 := rfl

theorem length_statusFields (s : State) : (statusFields s).length = 31 + 6 * min 4 s.notices.queue.length := by
  have hcarried : ((carriedNotices s).flatMap noticeBytes).length = 6 * min 4 s.notices.queue.length := by
    rw [List.length_flatMap]
    simp [carriedNotices, maxCarried, mul_comm]
  simp only [statusFields, List.length_append, List.length_cons, List.length_nil, List.length_map, hcarried, length_num1, length_num2,
    length_num3, length_flag1, length_posAll]

theorem flag1_openTag (s : State) (rest : List Byte) :
    flag1 s.batch.stage.isSome ++ (num1 (openTag s) ++ rest)
      = (match s.batch.stage with | none => [0#8, 0#8] | some b => [1#8, BitVec.ofNat 8 b.tag]) ++ rest := by
  unfold openTag
  cases s.batch.stage <;> rfl

theorem num1_topId (s : State) :
    num1 (topId s) = match s.overlays.records with | [] => [0#8] | o :: _ => [BitVec.ofNat 8 o.id] := by
  unfold topId
  cases s.overlays.records <;> rfl

theorem singleton_currentByte (s : State) :
    [currentByte s] = match s.board.current with | none => [0xFF#8] | some i => [BitVec.ofNat 8 i.val] := by
  unfold currentByte
  cases s.board.current <;> rfl

/-- Settles O31: the fields of the reply stand in the order of Table 13-8. -/
theorem statusReply : Obligations.StatusReply := by
  rintro v s a carried hv ha rfl
  refine ⟨statusFields s, length_statusFields s, ?_, reading_reported hv ha fun _ _ => rfl⟩
  simp only [statusFields, num1_topId, singleton_currentByte, List.append_assoc, flag1_openTag]
  rfl

/-- The bytes of a font in STORE_REPORT. -/
theorem fontFields_eq (f : Option Font) :
    fontFields f = match f with
      | none => [1#8, 0#8, 0#8, 0#8, 0#8, 0#8, 0#8]
      | some f => [0#8] ++ num1 f.height ++ num1 f.spacing ++ num2 f.glyphs.length
          ++ num2 (f.glyphs.map fun g => f.height * ((g.width + 7) / 8)).sum := by
  cases f <;> rfl

/-- Settles O32: each report writes its block's items in the order of the formats. -/
theorem blockReplies : Obligations.BlockReplies := by
  refine fun v s a hv => ⟨fun ha => reading_reported hv ha fun _ _ => rfl, fun ha => reading_reported hv ha fun _ _ => rfl,
    fun ha => reading_reported hv ha fun _ _ => rfl, fun ha => reading_reported hv ha fun _ _ => rfl, fun ha => ?_,
    fun ha => reading_reported hv ha fun _ _ => rfl⟩
  have hreport : reportStores s = done (num2 s.phrases.length ++ num2 (s.phrases.map fun p => p.v0.length + p.v1.length + p.v2.length).sum
      ++ [s.fonts.f1, s.fonts.f2, s.fonts.f3].flatMap (fun f => fontFields f) ++ num2 (bytesUsed s.fonts)) := by
    simp only [reportStores, phraseFields, List.flatMap_cons, List.flatMap_nil, List.append_nil, List.append_assoc]
    rfl
  simp only [fontFields_eq] at hreport
  exact (reading_reported hv ha fun _ _ => rfl).trans (congrArg (answered v _ a · a.state) hreport)

/-! ### The table's queries (R16, R17) -/

theorem findTrip_split {trip : Nat} {before after : List Live} {r : Live} (hr : r.dep.trip = trip) (hbefore : ∀ q ∈ before, q.dep.trip ≠ trip) :
    findTrip trip (before ++ r :: after) = some r := by
  rw [findTrip, List.find?_append, List.find?_eq_none.mpr fun q hq => by simpa using hbefore q hq, Option.none_or,
    List.find?_cons_of_pos (by simpa using hr)]

theorem positionOf_split {trip : Nat} {before after : List Live} {r : Live} (hr : r.dep.trip = trip)
    (hbefore : ∀ q ∈ before, q.dep.trip ≠ trip) : positionOf trip (before ++ r :: after) = before.length := by
  rw [positionOf, List.findIdx_append, List.findIdx_eq_length_of_false fun q hq => by simpa using hbefore q hq, if_neg (lt_irrefl _),
    List.findIdx_cons, beq_iff_eq.mpr hr, cond_true, Nat.zero_add]

/-- READ_DEPARTURE refuses trip id 0 and answers NOT_FOUND for a trip not held. -/
theorem reportDeparture_refused {trip : Nat} {s : State} :
    (trip = 0 → reportDeparture trip s = .refused .badField)
      ∧ (trip ≠ 0 → (∀ r ∈ s.table.records, r.dep.trip ≠ trip) → reportDeparture trip s = .refused .notFound) := by
  unfold reportDeparture
  exact ⟨fun h => if_pos h, fun h0 hno => by rw [if_neg h0, findTrip_of_absent hno]⟩

/-- Settles O33, from where the trip stands in the table. -/
theorem tableQueries : Obligations.TableQueries := by
  refine ⟨fun v trip s a hv ha => ?_, fun v start s a hv ha => ?_⟩
  · have hread : exec (.readDeparture v trip) s = answered v (.readDeparture v trip) a (reportDeparture trip.toNat s) a.state :=
      reading_reported hv ha fun _ _ => rfl
    have hzero : trip.toNat = 0 ↔ trip = 0#16 := by bv_omega
    refine ⟨fun h0 => ?_, fun h0 hno => ?_, fun before r after h0 hrs hr hbefore => ?_⟩
    · rw [hread, reportDeparture_refused.1 (hzero.mpr h0)]
    · rw [hread, reportDeparture_refused.2 (mt hzero.mp h0) hno]
    · rw [hread, reportDeparture, if_neg (mt hzero.mp h0), hrs, findTrip_split hr hbefore, positionOf_split hr hbefore]
      simp [departureBytes, hr, num2, num1, orZero, absentTime]
  · have hread : exec (.listDepartures v start) s = answered v (.listDepartures v start) a (reportList start.toNat s) a.state :=
      reading_reported hv ha fun _ _ => rfl
    refine ⟨fun h => ?_, fun h => ⟨((s.table.records.drop start.toNat).take 16).map fun r => r.dep.trip, ?_, fun i hi => ?_, ?_⟩⟩
    · rw [hread, reportList, if_pos h]
    · simp
    · have hi16 : i < 16 := by simp at hi; omega
      simp [hi16]
    · rw [hread, reportList, if_neg (by omega), List.flatMap_map]
      simp [num1]

/-! ### QUERY_LINE (R70) -/

theorem length_contentBytes (c : LineContent) : (contentBytes c).length = 5 := by
  cases c with
  | departure sel form value => cases value <;> rfl
  | _ => rfl

theorem length_recordBytes (r : LineRecord) : (recordBytes r).length = 10 := by
  simp [recordBytes, length_contentBytes]

theorem num2_zero : num2 0 = [0#8, 0#8] := by decide
theorem num3_absentTime : num3 absentTime = [0xFF#8, 0xFF#8, 0xFF#8] := by decide

/-- No trip is given for a line of another kind than DEPARTURE. -/
theorem num2_selectedTrip {c : LineContent} (h : ∀ sel form value, c ≠ .departure sel form value) : num2 (selectedTrip c) = [0#8, 0#8] := by
  cases c with
  | departure sel form value => exact absurd rfl (h sel form value)
  | _ => exact num2_zero

theorem selectedTrip_departure (sel : Option Selected) (form : TimeForm) (value : TimeValue) :
    selectedTrip (.departure sel form value) = (sel.map fun x => x.trip).getD 0 := by
  cases sel <;> rfl

/-- The time value of a DEPARTURE line as three bytes. -/
theorem valueBytes_eq (value : TimeValue) :
    valueBytes value = bytes24 (BitVec.ofNat 24 (match value with | .minutes m _ => m | .phrase i => i | .time t => t | .none => 0xFFFFFF)) := by
  cases value <;> rfl

/-- The report on a line of the current page. -/
theorem reportLine_of_line {index : Nat} {s : State} {i : Fin 4} {p : Page} {l : LineDef} (hm : s.board.mode = .run ∨ s.board.mode = .hold)
    (h7 : index ≤ 7) (hi : s.board.current = some i) (hp : pageAt s.board.pages i = some p) (hl : p.lines[index]? = some l) :
    reportLine index s = done (num1 i.val ++ num1 index ++ [lineKindByte l.kind] ++ flag1 s.board.lines.isSome
      ++ ((s.board.lines.bind fun rs => rs[index]?).map recordBytes).getD (List.replicate 10 0#8) ++ flag1 s.board.pending) := by
  have hmode : ¬ (s.board.mode ≠ .run ∧ s.board.mode ≠ .hold) := fun h => hm.elim h.1 h.2
  have hcur : currentPage s.board = some p := (currentPage_of_current hi).trans hp
  rw [reportLine, if_neg hmode, if_neg (Nat.not_lt.mpr h7), hi, hcur]
  simp only [hl]

/-- What QUERY_LINE refuses: the mode, the index, and a line that the current page does not have. -/
theorem reportLine_refused {index : Nat} {s : State} :
    (s.board.mode ≠ .run → s.board.mode ≠ .hold → reportLine index s = .refused .wrongMode)
      ∧ (s.board.mode = .run ∨ s.board.mode = .hold → 7 < index → reportLine index s = .refused .badField)
      ∧ (s.board.mode = .run ∨ s.board.mode = .hold → index ≤ 7 →
          (s.board.current = none ∨ ∃ p, currentPage s.board = some p ∧ p.lines.length ≤ index) → reportLine index s = .refused .notFound) := by
  have hmode (hm : s.board.mode = .run ∨ s.board.mode = .hold) : ¬ (s.board.mode ≠ .run ∧ s.board.mode ≠ .hold) := fun h => hm.elim h.1 h.2
  refine ⟨fun hr hh => if_pos ⟨hr, hh⟩, fun hm h7 => ?_, fun hm h7 hno => ?_⟩
  · rw [reportLine, if_neg (hmode hm), if_pos h7]
  · rw [reportLine, if_neg (hmode hm), if_neg (Nat.not_lt.mpr h7)]
    rcases hno with hnone | ⟨p, hp, hlen⟩
    · rw [hnone]
    · rw [hp]
      cases s.board.current with
      | none => rfl
      | some i => simp only [List.getElem?_eq_none hlen]

/-- Settles O34, by the checks in their order and the record of the line. -/
theorem lineQuery : Obligations.LineQuery := by
  intro v index s a hv ha
  have hread : exec (.queryLine v index) s = answered v (.queryLine v index) a (reportLine index.toNat s) a.state :=
    reading_reported hv ha fun _ _ => rfl
  obtain ⟨hwrong, hbad, hnot⟩ := reportLine_refused (index := index.toNat) (s := s)
  rw [hread]
  refine ⟨fun hr hh => by rw [hwrong hr hh], fun hm h7 => by rw [hbad hm h7], fun hm h7 hnone => by rw [hnot hm h7 (.inl hnone)],
    fun i p hm h7 hi hp => ⟨fun hlen => by rw [hnot hm h7 (.inr ⟨p, (currentPage_of_current hi).trans hp, hlen⟩)], fun l hl => ?_⟩⟩
  refine ⟨((s.board.lines.bind fun rs => rs[index.toNat]?).map recordBytes).getD (List.replicate 10 0#8), ?_, ?_, fun hnone => by rw [hnone]; rfl,
    fun rs r hrs hr => ?_⟩
  · cases s.board.lines.bind fun rs => rs[index.toNat]? with
    | none => rfl
    | some r => exact length_recordBytes r
  · rw [reportLine_of_line hm h7 hi hp hl]
    simp [num1]
  · have hitems : ((s.board.lines.bind fun rs => rs[index.toNat]?).map recordBytes).getD (List.replicate 10 0#8) = recordBytes r := by
      rw [hrs, Option.bind_some, hr]
      rfl
    rw [hitems]
    refine ⟨fun sel form value n hc hn => ?_, fun st time hc => ?_, fun id hc => ?_⟩
    · rw [recordBytes, hc, selectedTrip_departure, hn, contentBytes, valueBytes_eq]
      simp only [List.append_assoc]
      rfl
    · rw [recordBytes, hc, num2_selectedTrip (by simp)]
      rfl
    · rcases hc with hc | hc <;> rw [recordBytes, hc, num2_selectedTrip (by simp), contentBytes, num3_absentTime] <;> rfl

end Sys2Proof.Machine

end

/-! The notices, the line's settings, the sending of replies, and breaks. -/

section

namespace Sys2Proof.Machine

open Sys2Proof

/-! ### Notices (R174, R175, R178) -/

theorem offerTo_muted {q : Notices} {k : NoticeKind} (h : enableOf q.enables (noticeClass k) = false) (arg uptime : Nat) :
    offerTo q k arg uptime = q := if_pos h

/-- A queue with room takes an offer of an enabled class, and mutes the class. -/
theorem offerTo_room {q : Notices} {k : NoticeKind} (h : enableOf q.enables (noticeClass k) = true) (hroom : q.queue.length < maxNotices)
    (arg uptime : Nat) :
    offerTo q k arg uptime = { q with
      queue := q.queue ++ [{ serial := q.serial, cls := noticeClass k, code := noticeCode k, arg := arg, stamp := uptime % 65536 }],
      enables := mute q.enables (noticeClass k),
      serial := q.serial + 1 } := by
  rw [offerTo, if_neg (by simp [h]), if_pos hroom]

theorem offerTo_full {q : Notices} {k : NoticeKind} (h : enableOf q.enables (noticeClass k) = true) (hfull : maxNotices ≤ q.queue.length)
    (arg uptime : Nat) : offerTo q k arg uptime = { q with overflow := true, overflowSets := q.overflowSets + 1 } := by
  rw [offerTo, if_neg (by simp [h]), if_neg (Nat.not_lt.mpr hfull)]

theorem enableOf_mute (e : Enables) (m c : NoticeClass) : enableOf (mute e m) c = (enableOf e c && decide (c ≠ m)) := by
  cases m <;> cases c <;> simp [enableOf, mute]

theorem enableOf_enableSet (e : Enables) (m : BitVec 16) (c : NoticeClass) :
    enableOf (enableSet e m) c = (enableOf e c || m.getLsbD (classNum c)) := by
  cases c <;> rfl

/-- The class whose number is a bit of a class set. -/
def classAt : Fin 9 → NoticeClass
  | 0 => .line | 1 => .clock | 2 => .table | 3 => .batch | 4 => .supervisor | 5 => .panel | 6 => .overlay | 7 => .light | 8 => .refusal

theorem classNum_lt (c : NoticeClass) : classNum c < 9 := by cases c <;> decide

theorem classAt_classNum (c : NoticeClass) : classAt ⟨classNum c, classNum_lt c⟩ = c := by cases c <;> rfl

/-- A class set has a bit for each class. -/
theorem enableMask_eq_ofBits (e : Enables) : enableMask e = Nat.ofBits fun i => enableOf e (classAt i) := by
  have hbit (b : Bool) (m v : Nat) : (if b then m + v else m) = m + v * b.toNat := by cases b <;> simp
  simp only [enableMask, List.foldl_cons, List.foldl_nil, hbit, Nat.ofBits, Fin.foldr_succ, Fin.foldr_zero, Fin.succ]
  simp only [classAt, enableOf]
  ring

theorem enableMask_lt (e : Enables) : enableMask e < 512 := by
  rw [enableMask_eq_ofBits]
  exact Nat.ofBits_lt_two_pow _

theorem testBit_enableMask (e : Enables) (c : NoticeClass) : (enableMask e).testBit (classNum c) = enableOf e c := by
  rw [enableMask_eq_ofBits, Nat.testBit_ofBits_lt _ _ (classNum_lt c), classAt_classNum]

/-- Settles O35, by the enable and the room of the queue. -/
theorem noticesOfferedAndEnabled : Obligations.NoticesOfferedAndEnabled := by
  refine ⟨fun q k arg uptime => ⟨fun h => offerTo_muted h arg uptime, fun h hroom => ?_, fun h hfull => ?_⟩,
    fun v m s a ha => ⟨fun hbad => ?_, fun hgood => ?_⟩⟩
  · rw [offerTo_room h hroom]
    exact ⟨rfl, fun c => enableOf_mute _ _ c, rfl⟩
  · rw [offerTo_full h hfull]
    exact ⟨rfl, rfl, rfl⟩
  · exact request_answered ha (if_pos hbad)
  · have hsmall : enableMask (enableSet s.notices.enables m) < 512 := enableMask_lt _
    refine ⟨enableSet s.notices.enables m, BitVec.ofNat 16 (enableMask (enableSet s.notices.enables m)), enableOf_enableSet _ m, ?_,
      fun c => ?_, ?_⟩
    · rwa [BitVec.toNat_ofNat, Nat.mod_eq_of_lt (by omega)]
    · have := classNum_lt c
      rw [BitVec.getLsbD_ofNat, testBit_enableMask, decide_eq_true (by omega), Bool.true_and]
    · rw [← admission_state_notices ha]
      exact request_answered ha (if_neg (Nat.not_le.mpr hgood))

/-! ### The line's settings (R157, R165) -/

theorem admission_state_reset {c : Instr} {s : State} {a : Admitted} (h : admission c s = some a) :
    a.state.handler = { current := none, reset := .none } := by
  rw [(admission_frame h).1, ← (admission_frame h).2]

theorem admission_state_waiting {c : Instr} {s : State} {a : Admitted} (h : admission c s = some a) :
    a.state.line.waiting = s.line.waiting := by
  rw [(admission_frame h).1]

/-- Dropping replies makes the reset due where one of them answers RESET_UNIT ALL. -/
theorem dropReplies_eq (rs : List Reply) (s : State) :
    dropReplies rs s = { s with handler := { s.handler with reset := if ∃ r ∈ rs, r.carried = .reset then .due else s.handler.reset } } := by
  induction rs generalizing s with
  | nil => simp [dropReplies]
  | cons r rs ih =>
    refine (ih (dropReply r.carried s)).trans ?_
    rw [dropReply_eq]
    by_cases h : r.carried = .reset <;> simp [h]

theorem readGroup_zero : readGroup 0#8 = some none := rfl

theorem readGroup_address {x : Byte} (h : 64 ≤ x.toNat ∧ x.toNat ≤ 126) : readGroup x = some (some x.toNat) := by
  have h0 : x ≠ 0#8 := by rintro rfl; simp at h
  rw [readGroup, if_neg h0, if_pos h]

theorem readGroup_bad {x : Byte} (h : ¬ (x = 0#8 ∨ (64 ≤ x.toNat ∧ x.toNat ≤ 126))) : readGroup x = none := by
  rw [readGroup, if_neg fun h0 => h (.inl h0), if_neg fun h1 => h (.inr h1)]

/-- A group address field in range, as it is stored. -/
theorem readGroup_good {x : Byte} (h : x = 0#8 ∨ (64 ≤ x.toNat ∧ x.toNat ≤ 126)) :
    readGroup x = some (if x = 0#8 then none else some x.toNat) := by
  rcases h with rfl | h
  · rfl
  · have h0 : x ≠ 0#8 := by rintro rfl; simp at h
    rw [readGroup_address h, if_neg h0]

theorem num1_orZero_group (x : Byte) : num1 (orZero (if x = 0#8 then none else some x.toNat)) = [x] := by
  by_cases h : x = 0#8 <;> simp [h, num1, orZero]

/-- Settles O30, by the fields' ranges and the mode given. -/
theorem lineSettings : Obligations.LineSettings := by
  refine ⟨fun v x y s a good ha hgood => ⟨fun hbad => ?_, fun hok => ?_⟩, fun v m s a ha => ⟨fun hbad => ?_, ?_, ?_⟩⟩
  · refine request_answered ha ?_
    by_cases hx : x = 0#8 ∨ (64 ≤ x.toNat ∧ x.toNat ≤ 126)
    · by_cases hy : y = 0#8 ∨ (64 ≤ y.toNat ∧ y.toNat ≤ 126)
      · have hsame : x = y ∧ x ≠ 0#8 := by
          rw [hgood] at hbad
          exact Classical.not_imp.mp fun h => hbad ⟨hx, hy, h⟩
        simp only [setGroupsBody, readGroup_good hx, readGroup_good hy]
        exact if_pos hsame
      · simp only [setGroupsBody, readGroup_good hx, readGroup_bad hy]
    · simp only [setGroupsBody, readGroup_bad hx]
  · obtain ⟨hx, hy, hdiff⟩ := hgood.mp hok
    refine request_answered ha ?_
    simp only [setGroupsBody, readGroup_good hx, readGroup_good hy, num1_orZero_group]
    exact if_neg fun h => h.2 (hdiff h.1)
  · refine request_answered ha ?_
    unfold setReplyModeBody
    split
    · omega
    · omega
    · rfl
  · rintro rfl
    exact request_answered ha rfl
  · rintro rfl
    refine request_answered ha ?_
    change (setLine { (dropReplies a.state.line.waiting a.state).line with mode := .suppressed, waiting := [] }
      (dropReplies a.state.line.waiting a.state), done [replyModeByte .suppressed]) = _
    rw [dropReplies_eq, admission_state_reset ha, admission_state_waiting ha]
    rfl

end Sys2Proof.Machine

end

/-! The sending of replies, breaks, and the receiver. -/

section

namespace Sys2Proof.Machine

open Sys2Proof

/-! ### Replies sent (R164, R143, R166, R173, R176) -/

theorem receiverOn_of_none {s : State} (h : s.line.sending = none) : receiverOn s = true := by
  rw [receiverOn, h]
  rfl

theorem receiverOn_of_ne_none {s : State} (h : s.line.sending ≠ none) : receiverOn s = false := by
  rwa [receiverOn, Option.isNone_eq_false_iff, Option.isSome_iff_ne_none]

theorem inFrame_eq_false {s : State} (h : ∀ got, s.line.rx ≠ .inFrame got) : inFrame s = false := by
  unfold inFrame
  split
  · next got hgot => exact absurd hgot (h got)
  · rfl

/-- The first reply waiting starts while the receiver is not in a frame. -/
theorem replyStart_starts {s : State} {r : Reply} {rest : List Reply} (hw : s.line.waiting = r :: rest) (hon : s.line.sending = none)
    (hrx : ∀ got, s.line.rx ≠ .inFrame got) :
    exec .replyStart s = .next { s with line := { s.line with waiting := rest, sending := some r, breakOn := false, resetRaised := false } } := by
  change execReplyStart s = _
  unfold execReplyStart
  rw [hw]
  exact congrArg Host.Outcome.next (if_pos ⟨receiverOn_of_none hon, inFrame_eq_false hrx⟩)

theorem replyWithheld_drops {s : State} {r : Reply} {rest : List Reply} (hw : s.line.waiting = r :: rest) :
    exec .replyWithheld s = .next (dropReply r.carried { s with line := { s.line with waiting := rest } }) := by
  change execReplyWithheld s = _
  unfold execReplyWithheld
  rw [hw]
  rfl

/-- A reply's last character is sent, and what it carried is acted on. -/
theorem replySent_acts {s : State} {r : Reply} (h : s.line.sending = some r) :
    exec .replySent s = .next (actOnSent r.carried { s with line := { s.line with sending := none, rx := .hunt } }) := by
  change execReplySent s = _
  unfold execReplySent
  rw [h]
  rfl

theorem filter_not_contains (serials : List Nat) (q : List Notice) :
    (q.filter fun n => !serials.contains n.serial) = q.filter fun n => n.serial ∉ serials :=
  List.filter_congr fun n _ => by simp

/-- Settles O29, by what the reply carried. -/
theorem repliesSent : Obligations.RepliesSent := by
  refine ⟨fun s r rest hw => ⟨replyStart_starts hw, replyWithheld_drops hw⟩, fun s u r hs hu => ?_⟩
  have hsent : exec .replySent s = .next (actOnSent r.carried u) := hu ▸ replySent_acts hs
  rw [hsent]
  refine ⟨fun hc => ?_, fun hc => ?_, fun naks timeouts hc => ?_, fun serials overflow sets trunc crc busy hc => ?_⟩
  · rw [hc]
    rfl
  · rw [hc, hu]
    rfl
  · refine ⟨_, rfl, ?_, fun p => ?_⟩
    · rw [hc, hu]
      rfl
    · rw [hc, hu]
      exact get_tabulate _ p
  · rw [hc, hu, ← filter_not_contains]
    rfl

/-! ### Breaks and link resets (R160, R30, R29) -/

theorem slotCount_eq (sl : Slots) : slotCount sl = (heldFrames sl).length := by
  obtain ⟨s1, s2, s3⟩ := sl
  cases s1 <;> cases s2 <;> cases s3 <;> rfl

theorem beginBreak_eq (s : State) :
    beginBreak s = { s with line := { s.line with
      rx := .hunt, breakOn := true, resetRaised := false,
      trunc := match s.line.rx with | .inFrame _ => min 255 (s.line.trunc + 1) | _ => s.line.trunc } } := by
  unfold beginBreak
  cases s.line.rx <;> rfl

theorem lineBreak_begins {s : State} (h : s.line.sending = none) : exec .lineBreak s = .next (beginBreak s) :=
  congrArg Host.Outcome.next (if_pos (receiverOn_of_none h))

theorem linkReset_raised {s : State} (h : s.line.sending = none) (hb : s.line.breakOn = true) :
    exec .linkReset s = .next (if s.line.resetRaised = true then s else linkReset s) := by
  change execLinkReset s = _
  rw [execLinkReset, if_neg (by simp [receiverOn_of_none h]), if_neg (by simp [hb])]

theorem holdsClose_iff (s : State) : holdsClose s = true ↔ (s.handler.current.map fun h => h.slot.kind) = some 0x23#8 := beq_iff_eq

/-- The batch and the notices that a link reset leaves of an open batch (R30, R29). -/
theorem batchLinkReset_eq (s : State) :
    batchLinkReset s = { s with
      batch := if (s.handler.current.map fun h => h.slot.kind) = some 0x23#8 then s.batch else { s.batch with stage := none },
      notices := match s.batch.stage with
        | none => s.notices
        | some b => if (s.handler.current.map fun h => h.slot.kind) = some 0x23#8 then s.notices
            else offerTo s.notices .batchLinkReset b.tag s.unit.uptime } := by
  unfold batchLinkReset
  simp only [← holdsClose_iff]
  split
  · next hnone =>
    have hclosed : { s.batch with stage := none } = s.batch := by rw [← hnone]
    simp only [hnone, hclosed, ite_self]
  · next b hb => cases hc : holdsClose s <;> simp [hb, offer, setStage]

/-- Settles O27, by what a break finds in the receiver and what a link reset finds in the handler. -/
theorem breakAndLinkReset : Obligations.BreakAndLinkReset := by
  intro s hs
  refine ⟨?_, fun hb hr => ?_, fun hb hr => ?_⟩
  · exact (lineBreak_begins hs).trans (congrArg Host.Outcome.next (beginBreak_eq s))
  · rw [linkReset_raised hs hb, if_pos hr]
  · rw [linkReset_raised hs hb, if_neg (by simp [hr])]
    simp only [linkReset, batchLinkReset_eq, dropReplies_eq, slotCount_eq]
    cases hcur : s.handler.current with
    | none => simp [offer, setLine] <;> rfl
    | some h => simp [offer, setLine] <;> rfl

end Sys2Proof.Machine

end

/-! The receiver: a character in each state, the judgement of a complete frame, and a frame's arrival. -/

section

namespace Sys2Proof.Machine

open Sys2Proof

/-! ### Characters (R158, R159) -/

theorem characterError_iff (st : Straps) (b : Byte) (parity stop : Bool) :
    characterError st b parity stop = true ↔ (st.parity = true ∧ parity ≠ parityBit b) ∨ stop = false := by
  simp [characterError]

theorem receiveCharacter_taken {s : State} (h : s.line.sending = none) (b : Byte) (parity stop : Bool) :
    exec (.receiveCharacter b parity stop) s = .next (takeCharacter b parity stop (breakOver s)) :=
  congrArg Host.Outcome.next (if_pos (receiverOn_of_none h))

/-- While a reply is sent the receiver is off (R164). -/
theorem lineEvents_off {s : State} (h : s.line.sending ≠ none) (b : Byte) (parity stop : Bool) :
    ∀ c ∈ [Instr.receiveCharacter b parity stop, .frameComplete b, .lineIdleSeen, .frameGap, .lineBreak, .linkReset],
      exec c s = .next s := by
  have hoff := receiverOn_of_ne_none h
  simp only [List.forall_mem_cons, List.not_mem_nil, false_implies, implies_true, and_true]
  refine ⟨?_, ?_, ?_, ?_, ?_, ?_⟩
  · change execReceiveCharacter b parity stop s = _
    simp [execReceiveCharacter, hoff]
  · change execFrameComplete b s = _
    simp only [execFrameComplete, hoff]
    split <;> rfl
  · change execLineIdleSeen s = _
    simp [execLineIdleSeen, hoff]
  · change execFrameGap s = _
    simp only [execFrameGap, hoff]
    split <;> rfl
  · change execLineBreak s = _
    simp [execLineBreak, hoff]
  · change execLinkReset s = _
    simp [execLinkReset, hoff]

/-- A length above the most a frame carries abandons the frame. -/
theorem gather_tooLong {got : List Byte} {b : Byte} (h : got.length = 3 ∧ maxPayload < b.toNat) (s : State) :
    gather b got s = abandon .discard s := if_pos h

/-- A good character short of the end is gathered. -/
theorem gather_more {got : List Byte} {b : Byte} (hlen : ¬ (got.length = 3 ∧ maxPayload < b.toNat))
    (hshort : frameSize (got ++ [b]) ≠ some (got.length + 1)) (s : State) : gather b got s = setReceiver (.inFrame (got ++ [b])) s := by
  rw [gather, if_neg hlen, if_neg]
  simpa using hshort

theorem frameSize_eq_none {got : List Byte} (h : got.length ≤ 3) : frameSize got = none := by
  rw [frameSize, List.getElem?_eq_none h, Option.map_none]

theorem frameSize_eq_some {got : List Byte} {n : Byte} (h : got[3]? = some n) : frameSize got = some (4 + n.toNat + 2) := by
  rw [frameSize, h, Option.map_some]

/-- When a good character leaves the frame short of its end. -/
theorem gather_short {got : List Byte} {b : Byte}
    (h : got.length < 3 ∨ (got.length = 3 ∧ b.toNat ≤ 240) ∨ ∃ n, got[3]? = some n ∧ got.length + 1 < 6 + n.toNat) (s : State) :
    gather b got s = setReceiver (.inFrame (got ++ [b])) s := by
  rcases h with hlt | ⟨h3, hb⟩ | ⟨n, hn, hlt⟩
  · refine gather_more (fun h => by omega) ?_ s
    rw [frameSize_eq_none (by simpa using hlt)]
    simp
  · refine gather_more (fun h => Nat.not_lt.mpr hb h.2) ?_ s
    rw [frameSize_eq_some (n := b) (by simp [h3])]
    simp only [ne_eq, Option.some.injEq]
    omega
  · have hgt : 3 < got.length := (List.getElem?_eq_some_iff.mp hn).1
    refine gather_more (fun h => by omega) ?_ s
    rw [frameSize_eq_some (n := n) (by rw [List.getElem?_append_left hgt, hn])]
    simp only [ne_eq, Option.some.injEq]
    omega

/-- In HUNT and DISCARD a character is dropped. -/
theorem takeCharacter_dropped {s : State} (h : s.line.rx = .hunt ∨ s.line.rx = .discard) (b : Byte) (parity stop : Bool) :
    takeCharacter b parity stop s = s := by
  unfold takeCharacter
  rcases h with h | h <;> rw [h]

theorem takeCharacter_idleSeen {s : State} (h : s.line.rx = .idleSeen) (b : Byte) (parity stop : Bool) :
    takeCharacter b parity stop s = if characterError s.line.straps b parity stop = true then setReceiver .discard s
      else if b = syncByte then setReceiver (.inFrame []) s else setReceiver .hunt s := by
  unfold takeCharacter
  rw [h]

theorem takeCharacter_inFrame {s : State} {got : List Byte} (h : s.line.rx = .inFrame got) (b : Byte) (parity stop : Bool) :
    takeCharacter b parity stop s = if characterError s.line.straps b parity stop = true then abandon .discard s else gather b got s := by
  unfold takeCharacter
  rw [h]

theorem lineIdleSeen_eq {s : State} (h : s.line.sending = none) :
    (s.line.rx = .hunt ∨ s.line.rx = .discard → exec .lineIdleSeen s = .next (setReceiver .idleSeen (breakOver s)))
      ∧ (∀ got, s.line.rx = .inFrame got → exec .lineIdleSeen s = .next s) := by
  have hexec : exec .lineIdleSeen s = execLineIdleSeen s := rfl
  rw [hexec, execLineIdleSeen, if_pos (receiverOn_of_none h)]
  refine ⟨fun hrx => ?_, fun got hrx => by rw [hrx]⟩
  rcases hrx with hrx | hrx <;> rw [hrx]

theorem frameGap_eq {s : State} (h : s.line.sending = none) :
    (s.line.rx = .hunt ∨ s.line.rx = .discard → exec .frameGap s = .next s)
      ∧ ∀ got, s.line.rx = .inFrame got → exec .frameGap s = .next (abandon .hunt s) := by
  have hexec : exec .frameGap s = execFrameGap s := rfl
  rw [hexec, execFrameGap, if_pos (receiverOn_of_none h)]
  refine ⟨fun hrx => ?_, fun got hrx => by rw [hrx]⟩
  rcases hrx with hrx | hrx <;> rw [hrx]

/-- Settles O24, by the receiver's state. -/
theorem receiverMoves : Obligations.ReceiverMoves := by
  rintro s quiet b parity stop bad rfl hbad
  refine ⟨fun c hc hs => lineEvents_off hs b parity stop c hc, fun hon => ?_⟩
  have hrecv := receiveCharacter_taken hon b parity stop
  replace hbad : bad ↔ characterError (breakOver s).line.straps b parity stop = true := hbad.trans (characterError_iff _ _ _ _).symm
  refine ⟨fun hrx => ⟨?_, (lineIdleSeen_eq hon).1 hrx, (frameGap_eq hon).1 hrx⟩, fun hrx h => ?_, fun hrx h hb => ?_, fun hrx h hb => ?_,
    fun got hrx => ⟨fun h => ?_, fun h hshort => ?_, (frameGap_eq hon).2 got hrx, (lineIdleSeen_eq hon).2 got hrx⟩⟩
  · rw [hrecv, takeCharacter_dropped (s := breakOver s) hrx]
    rfl
  · rw [hrecv, takeCharacter_idleSeen (s := breakOver s) hrx, if_pos (hbad.mp h)]
    rfl
  · rw [hrecv, takeCharacter_idleSeen (s := breakOver s) hrx, if_neg (mt hbad.mpr h), if_pos (show b = syncByte from hb)]
    rfl
  · rw [hrecv, takeCharacter_idleSeen (s := breakOver s) hrx, if_neg (mt hbad.mpr h), if_neg (show ¬ b = syncByte from hb)]
    rfl
  · rw [hrecv, takeCharacter_inFrame (s := breakOver s) hrx]
    by_cases hchar : bad
    · rw [if_pos (hbad.mp hchar)]
      rfl
    · rw [if_neg (mt hbad.mpr hchar), gather_tooLong (h.resolve_left hchar)]
      rfl
  · rw [hrecv, takeCharacter_inFrame (s := breakOver s) hrx, if_neg (mt hbad.mpr h), gather_short hshort]
    rfl

/-! ### The judgement of a frame (R156, R161, R162) -/

/-- The last CRC character completes the frame, which is judged with the receiver in HUNT. -/
theorem gather_complete {dest kind tag len last : Byte} {rest : List Byte} (hrest : rest.length = len.toNat + 1) (s : State) :
    gather last (dest :: kind :: tag :: len :: rest) s = judgeFrame
      { dest := dest, kind := kind, tag := tag, payload := rest.take len.toNat, crc := rest.drop len.toNat ++ [last] } (setReceiver .hunt s) := by
  have hlast : frameSize (dest :: kind :: tag :: len :: rest ++ [last]) = some (dest :: kind :: tag :: len :: rest ++ [last]).length := by
    rw [frameSize_eq_some (n := len) rfl]
    simp [hrest]
    omega
  have hparse : parseFrame (dest :: kind :: tag :: len :: rest ++ [last]) = some
      { dest := dest, kind := kind, tag := tag, payload := rest.take len.toNat, crc := rest.drop len.toNat ++ [last] } := by
    have htake : (rest ++ [last]).take len.toNat = rest.take len.toNat := List.take_append_of_le_length (by omega)
    have hdrop : (rest ++ [last]).drop len.toNat = rest.drop len.toNat ++ [last] := List.drop_append_of_le_length (by omega)
    simp [parseFrame, htake, hdrop]
  have hlong : ¬ ((dest :: kind :: tag :: len :: rest).length = 3 ∧ maxPayload < last.toNat) := fun h => by simp at h
  rw [gather, if_neg hlong, if_pos hlast, hparse]

theorem frameComplete_judges {s : State} {dest kind tag len last : Byte} {rest : List Byte} (hon : s.line.sending = none)
    (hrx : s.line.rx = .inFrame (dest :: kind :: tag :: len :: rest)) (hrest : rest.length = len.toNat + 1) :
    exec (.frameComplete last) s = .next (judgeFrame
      { dest := dest, kind := kind, tag := tag, payload := rest.take len.toNat, crc := rest.drop len.toNat ++ [last] }
      (setReceiver .hunt (breakOver s))) := by
  have hawaits : awaitsLast s = true := by
    simp only [awaitsLast, hrx, frameSize_eq_some (got := dest :: kind :: tag :: len :: rest) (n := len) rfl]
    simp [hrest]
    omega
  have hexec : exec (.frameComplete last) s = execFrameComplete last s := rfl
  rw [hexec, execFrameComplete, hrx]
  simp only [receiverOn_of_none hon, hawaits, and_self, if_true, gather_complete hrest]

theorem crcGood_iff (g : Gathered) : crcGood g = true ↔ g.crc = bytes16 (crc16 (crcInput g)) := beq_iff_eq

theorem judgeFrame_badCrc {g : Gathered} (h : crcGood g = false) (s : State) :
    judgeFrame g s = { s with line := { s.line with crc := satInc 255 s.line.crc } } := if_pos h

/-- A reply kind, or a destination the part does not hold, is dropped. -/
theorem judgeFrame_dropped {g : Gathered} {s : State} (hgood : crcGood g = true) (h : g.kind.msb = true ∨ addressingOf s.line g.dest = none) :
    judgeFrame g s = s := by
  rw [judgeFrame, if_neg (by simp [hgood])]
  split
  · rfl
  · next hk => rw [h.resolve_left hk]

theorem judgeFrame_kept {g : Gathered} {s : State} {a : Addressing} (hgood : crcGood g = true) (hk : g.kind.msb = false)
    (ha : addressingOf s.line g.dest = some a) : judgeFrame g s = storeFrame (keptFrame g a s.line) s := by
  rw [judgeFrame, if_neg (by simp [hgood]), if_neg (by simp [hk]), ha]

/-- A frame put into an empty slot joins those held. -/
theorem putSlot_free {sl : Slots} (h : sl.s1 = none ∨ sl.s2 = none ∨ sl.s3 = none) (f : Slot) :
    ∃ sl', putSlot f sl = some sl' ∧ (heldFrames sl').Perm (f :: heldFrames sl) := by
  obtain ⟨s1, s2, s3⟩ := sl
  cases s1 with
  | none => exact ⟨_, rfl, .refl _⟩
  | some f1 =>
    cases s2 with
    | none => exact ⟨_, rfl, by cases s3 <;> exact .swap _ _ _⟩
    | some f2 =>
      obtain rfl : s3 = none := by simpa using h
      exact ⟨_, rfl, List.perm_append_comm (l₁ := [f1, f2]) (l₂ := [f])⟩

theorem putSlot_full {sl : Slots} (h1 : sl.s1 ≠ none) (h2 : sl.s2 ≠ none) (h3 : sl.s3 ≠ none) (f : Slot) : putSlot f sl = none := by
  rw [putSlot, if_neg h1, if_neg h2, if_neg h3]

theorem storeFrame_put {f : Slot} {s : State} {sl : Slots} (h : putSlot f s.line.slots = some sl) :
    storeFrame f s = { s with line := { s.line with slots := sl, nextStamp := (s.line.nextStamp + 1) % 65536, seq := s.line.seq + 1 } } := by
  rw [storeFrame, h]
  rfl

/-- With every slot full the frame is counted and reported, and a unit-addressed one is answered BUSY. -/
theorem storeFrame_overrun {f : Slot} {s w : State} (h : putSlot f s.line.slots = none)
    (hw : w = { s with line := { s.line with busy := min 255 (s.line.busy + 1), seq := s.line.seq + 1 },
                       notices := offerTo s.notices .lineSlotOverrun f.kind.toNat s.unit.uptime }) :
    storeFrame f s = if f.addressing = .unit then finish { addressing := .unit, tag := f.tag } f.kind f.seq false (.refused .busy) w else w := by
  rw [storeFrame, h, hw]
  unfold overrun
  cases f.addressing <;> rfl

theorem addressingOf_iff (l : Line) (d : Byte) :
    (addressingOf l d = some .unit ↔ unitAddress l.straps = some d.toNat)
      ∧ (addressingOf l d = some .group ↔ unitAddress l.straps ≠ some d.toNat ∧ (l.groupA = some d.toNat ∨ l.groupB = some d.toNat))
      ∧ (addressingOf l d = some .broadcast ↔ unitAddress l.straps ≠ some d.toNat ∧ l.groupA ≠ some d.toNat
          ∧ l.groupB ≠ some d.toNat ∧ d = 127#8) := by
  unfold addressingOf
  by_cases hu : unitAddress l.straps = some d.toNat
  · simp [hu]
  · by_cases hg : l.groupA = some d.toNat ∨ l.groupB = some d.toNat
    · simp only [if_neg hu, if_pos hg]
      simp only [hu, hg, Option.some.injEq, reduceCtorEq, ne_eq, not_false_iff, and_self, true_and, false_iff, not_and]
      exact fun ha hb => absurd hg (not_or.mpr ⟨ha, hb⟩)
    · obtain ⟨ha, hb⟩ := not_or.mp hg
      simp only [if_neg hu, if_neg hg]
      by_cases h7 : d = 127#8
      · simp only [if_pos h7]
        simpa [hu, ha, hb] using h7
      · simp [hu, ha, hb, h7]

theorem unitAddress_eq (st : Straps) : unitAddress st = if st.addr = 0#6 ∨ st.addr = 63#6 then none else some st.addr.toNat := by
  have h0 : st.addr.toNat = 0 ↔ st.addr = 0#6 := by bv_omega
  have h63 : st.addr.toNat = 63 ↔ st.addr = 63#6 := by bv_omega
  simp only [unitAddress, h0, h63]

/-- Settles O25, by the three steps of the judgement and the room in the slots. -/
theorem frameJudged : Obligations.FrameJudged := by
  refine ⟨fun s u dest kind tag len last rest payload crc good hon hrx hrest hlen hpay hcrc hgood hu => ?_,
    fun l d => ⟨(addressingOf_iff l d).1, (addressingOf_iff l d).2.1, (addressingOf_iff l d).2.2, unitAddress_eq _⟩⟩
  have hjudge := frameComplete_judges (last := last) hon hrx hrest
  have hustate : setReceiver .hunt (breakOver s) = u := hu.symm
  rw [← hpay, ← hcrc, hustate] at hjudge
  have hcount : countByte payload.length = len := by
    rw [hpay, List.length_take, hrest, min_eq_left (by omega), countByte]
    simp
  have hiff : crcGood { dest := dest, kind := kind, tag := tag, payload := payload, crc := crc } = true ↔ good := by
    rw [crcGood_iff, hgood, crcInput, hcount]
  rw [hjudge]
  refine ⟨fun hbad => ?_, fun hok hdrop => ?_, fun a f hok hk ha hf => ?_⟩
  · rw [judgeFrame_badCrc (by simpa using mt hiff.mp hbad), hu]
    rfl
  · rw [judgeFrame_dropped (hiff.mpr hok) (by rw [hu]; exact hdrop)]
  · have hstored := judgeFrame_kept (s := u) (hiff.mpr hok) hk (by rw [hu]; exact ha)
    have hkept : keptFrame { dest := dest, kind := kind, tag := tag, payload := payload, crc := crc } a u.line = f := by
      rw [hf, hu]
      rfl
    have hslots : u.line.slots = s.line.slots := by rw [hu]
    rw [hstored, hkept]
    refine ⟨fun hfree => ?_, fun h1 h2 h3 w hw => ?_⟩
    · obtain ⟨sl, hput, hperm⟩ := putSlot_free hfree f
      refine ⟨sl, hperm, ?_⟩
      rw [storeFrame_put (hslots ▸ hput), hu]
    · have hover := storeFrame_overrun (s := u) (w := w) (hslots ▸ putSlot_full h1 h2 h3 f) (by rw [hw, hf, hu])
      rw [hover, hf]

end Sys2Proof.Machine

end

/-! A frame's arrival, character by character. -/

section

namespace Sys2Proof.Machine

open Sys2Proof

theorem runCommands_cons {c : Instr} {cs : List Instr} {s t : State} (h : exec c s = .next t) : runCommands (c :: cs) s = runCommands cs t := by
  rw [runCommands, h]

theorem runCommands_append {xs ys : List Instr} {s t : State} (h : runCommands xs s = .next t) :
    runCommands (xs ++ ys) s = runCommands ys t := by
  induction xs generalizing s with
  | nil => cases h; rfl
  | cons c cs ih =>
    obtain ⟨u, hu, -⟩ := everyCommandCompletes c s
    rw [runCommands_cons hu] at h
    rw [List.cons_append, runCommands_cons hu, ih h]

theorem arrival_append (xs ys : List Byte) : arrival (xs ++ ys) = arrival xs ++ arrival ys := List.map_append

/-- A character as it is sent has no error. -/
theorem characterError_sent (st : Straps) (b : Byte) : characterError st b (parityBit b) true = false := by
  simp [characterError]

theorem breakOver_of_quiet {s : State} (hb : s.line.breakOn = false) (hr : s.line.resetRaised = false) : breakOver s = s := by
  have hline : { s.line with breakOn := false, resetRaised := false } = s.line := by
    cases hl : s.line
    simp_all
  exact congrArg (fun l => { s with line := l }) hline

/-- Any characters of a frame that leave it short of its end. -/
theorem gatheringOk_prefix {xs ys : List Byte} (h : GatheringOk (xs ++ ys)) : GatheringOk xs := by
  intro n hn
  have hlt : 3 < xs.length := (List.getElem?_eq_some_iff.mp hn).1
  obtain ⟨hmax, hshort⟩ := h n (by rw [List.getElem?_append_left hlt, hn])
  rw [List.length_append] at hshort
  exact ⟨hmax, by omega⟩

/-- A good character that leaves the frame short of its end is gathered. -/
theorem gather_of_gatheringOk {got : List Byte} {b : Byte} (h : GatheringOk (got ++ [b])) (s : State) :
    gather b got s = setReceiver (.inFrame (got ++ [b])) s := by
  refine gather_more (fun hlong => ?_) (fun hsize => ?_) s
  · have := (h b (by simp [hlong.1])).1
    omega
  · obtain ⟨n, hn, hlen⟩ := Option.map_eq_some_iff.mp hsize
    have := (h n hn).2
    simp only [List.length_append, List.length_singleton] at this
    omega

/-- The characters of a frame short of its end, one after another. -/
theorem arrival_gathers {bs got : List Byte} {s : State} (hon : s.line.sending = none) (hb : s.line.breakOn = false)
    (hr : s.line.resetRaised = false) (hrx : s.line.rx = .inFrame got) (hok : GatheringOk (got ++ bs)) :
    runCommands (arrival bs) s = .next { s with line := { s.line with rx := .inFrame (got ++ bs) } } := by
  induction bs generalizing got s with
  | nil =>
    rw [List.append_nil, ← hrx]
    rfl
  | cons b bs ih =>
    rw [List.append_cons] at hok ⊢
    have hexec : exec (.receiveCharacter b (parityBit b) true) s = .next (setReceiver (.inFrame (got ++ [b])) s) := by
      rw [receiveCharacter_taken hon, breakOver_of_quiet hb hr, takeCharacter_inFrame hrx, characterError_sent, if_neg (by decide),
        gather_of_gatheringOk (gatheringOk_prefix hok)]
    refine (runCommands_cons hexec).trans ?_
    exact ih (s := setReceiver (.inFrame (got ++ [b])) s) hon hb hr rfl hok

theorem toNat_countByte {n : Nat} (h : n ≤ 240) : (countByte n).toNat = n := by
  rw [countByte, BitVec.toNat_ofNat, Nat.mod_eq_of_lt (by omega)]

/-- A good frame's last character, with a slot free: the frame is kept. -/
theorem receive_last {dest kind tag last hi : Byte} {payload : List Byte} {a : Addressing} {s : State} (hlen : payload.length ≤ 240)
    (hk : kind.msb = false) (hon : s.line.sending = none) (hb : s.line.breakOn = false) (hr : s.line.resetRaised = false)
    (hrx : s.line.rx = .inFrame (dest :: kind :: tag :: countByte payload.length :: (payload ++ [hi])))
    (hcrc : [hi, last] = bytes16 (crc16 ([dest, kind, tag, countByte payload.length] ++ payload)))
    (ha : addressingOf s.line dest = some a) :
    exec (.receiveCharacter last (parityBit last) true) s = .next (storeFrame
      { dest := dest, kind := kind, tag := tag, payload := payload, addressing := a, stamp := s.line.nextStamp, seq := s.line.seq }
      (setReceiver .hunt s)) := by
  have hrest : (payload ++ [hi]).length = (countByte payload.length).toNat + 1 := by
    rw [List.length_append, toNat_countByte hlen, List.length_singleton]
  rw [receiveCharacter_taken hon, breakOver_of_quiet hb hr, takeCharacter_inFrame hrx, characterError_sent, if_neg (by decide),
    gather_complete hrest, toNat_countByte hlen, List.take_left, List.drop_left]
  exact congrArg Host.Outcome.next (judgeFrame_kept (s := setReceiver .hunt s) ((crcGood_iff _).mpr hcrc) hk ha)

/-- What the arrival of a whole frame changes. -/
theorem storeFrame_arrived {f : Slot} {s : State} {sl : Slots} {got : List Byte} (h : putSlot f s.line.slots = some sl) :
    storeFrame f (setReceiver .hunt (setReceiver (.inFrame got) (setReceiver (.inFrame []) (breakOver s)))) = { s with line := { s.line with
      rx := .hunt, slots := sl, nextStamp := (s.line.nextStamp + 1) % 65536, seq := s.line.seq + 1, breakOn := false,
      resetRaised := false } } := by
  rw [storeFrame_put (s := setReceiver .hunt (setReceiver (.inFrame got) (setReceiver (.inFrame []) (breakOver s)))) h]
  simp [setReceiver, setLine, breakOver]

/-- Settles O26, by induction along the frame's characters up to the last. -/
theorem frameReceived : Obligations.FrameReceived := by
  intro dest kind tag payload a s hlen hk hon hrx ha hfree
  obtain ⟨hi, lo, hcrc⟩ : ∃ hi lo, [hi, lo] = bytes16 (crc16 ([dest, kind, tag, countByte payload.length] ++ payload)) := ⟨_, _, rfl⟩
  obtain ⟨got, hgot⟩ : ∃ got, got = dest :: kind :: tag :: countByte payload.length :: (payload ++ [hi]) := ⟨_, rfl⟩
  obtain ⟨s1, hs1⟩ : ∃ s1, s1 = setReceiver (.inFrame []) (breakOver s) := ⟨_, rfl⟩
  have hbytes : frameBytes dest kind tag payload = syncByte :: (got ++ [lo]) := by
    rw [frameBytes, ← hcrc, hgot]
    simp
  have hok : GatheringOk got := by
    intro n hn
    obtain rfl : countByte payload.length = n := by simpa [hgot] using hn
    rw [toNat_countByte hlen, hgot]
    simp only [List.length_cons, List.length_append, List.length_nil]
    exact ⟨hlen, by omega⟩
  have hsync : exec (.receiveCharacter syncByte (parityBit syncByte) true) s = .next s1 := by
    rw [receiveCharacter_taken hon, takeCharacter_idleSeen (s := breakOver s) hrx, characterError_sent, if_neg (by decide), if_pos rfl, hs1]
  have hbody : runCommands (arrival got) s1 = .next (setReceiver (.inFrame got) s1) := by
    subst hs1
    exact arrival_gathers (got := []) hon rfl rfl rfl hok
  obtain ⟨f, hf⟩ : ∃ f : Slot, f = { dest := dest, kind := kind, tag := tag, payload := payload, addressing := a,
                                     stamp := s.line.nextStamp, seq := s.line.seq } := ⟨_, rfl⟩
  have hlast : exec (.receiveCharacter lo (parityBit lo) true) (setReceiver (.inFrame got) s1)
      = .next (storeFrame f (setReceiver .hunt (setReceiver (.inFrame got) s1))) := by
    subst hs1 hf
    exact receive_last (s := setReceiver (.inFrame got) (setReceiver (.inFrame []) (breakOver s))) hlen hk hon rfl rfl
      (congrArg Receiver.inFrame hgot) hcrc ha
  obtain ⟨sl, hput, hperm⟩ := putSlot_free hfree f
  refine ⟨sl, hf ▸ hperm, ?_⟩
  rw [hbytes]
  refine (runCommands_cons hsync).trans ?_
  refine (congrArg (runCommands · s1) (arrival_append got [lo])).trans ?_
  refine (runCommands_append hbody).trans ((runCommands_cons hlast).trans ?_)
  subst hs1
  exact congrArg Host.Outcome.next (storeFrame_arrived hput)

end Sys2Proof.Machine

end

/-! The decoder of requests: the kind and the size of a payload, and the taking of the oldest frame. -/

section

namespace Sys2Proof.Machine

open Sys2Proof

/-! ### Payload sizes (R169, Table 13-5) -/

/-- A decoded payload is a request of this kind where the size fits, and is refused with BAD_LENGTH where it does not. -/
def DecodesWhen (fits : Prop) (v : Via) (kind : Byte) (d : Decoded) : Prop :=
  (fits → ∃ c, d = .request c ∧ requestVia c = some v ∧ requestKind c = kind) ∧ (¬ fits → d = .refuse .badLength)

theorem decodesWhen_request {fits : Prop} {v : Via} {kind : Byte} {c : Instr} (hfits : fits) (hv : requestVia c = some v)
    (hk : requestKind c = kind) : DecodesWhen fits v kind (.request c) :=
  ⟨fun _ => ⟨c, rfl, hv, hk⟩, fun h => absurd hfits h⟩

theorem decodesWhen_refuse {fits : Prop} {v : Via} {kind : Byte} (h : ¬ fits) : DecodesWhen fits v kind (.refuse .badLength) :=
  ⟨fun hf => absurd hf h, fun _ => rfl⟩

section

variable {v : Via} {kind : Byte} {p : List Byte}

theorem decodeEmpty_decodes {c : Instr} (hv : requestVia c = some v) (hk : requestKind c = kind) :
    DecodesWhen (p.length = 0) v kind (decodeEmpty c p) := by
  unfold decodeEmpty
  split
  · next h => exact decodesWhen_request (by rw [h]; rfl) hv hk
  · next h => exact decodesWhen_refuse (mt List.length_eq_zero_iff.mp h)

theorem decodeByte_decodes {f : Byte → Instr} (hv : ∀ a, requestVia (f a) = some v) (hk : ∀ a, requestKind (f a) = kind) :
    DecodesWhen (p.length = 1) v kind (decodeByte f p) := by
  unfold decodeByte
  split
  · exact decodesWhen_request rfl (hv _) (hk _)
  · next hno => exact decodesWhen_refuse fun hlen => match p, hlen with | [a], _ => hno a rfl

theorem decodeTwo_decodes {f : Byte → Byte → Instr} (hv : ∀ a b, requestVia (f a b) = some v) (hk : ∀ a b, requestKind (f a b) = kind) :
    DecodesWhen (p.length = 2) v kind (decodeTwo f p) := by
  unfold decodeTwo
  split
  · exact decodesWhen_request rfl (hv _ _) (hk _ _)
  · next hno => exact decodesWhen_refuse fun hlen => match p, hlen with | [a, b], _ => hno a b rfl

theorem decodeWide_decodes {f : BitVec 16 → Instr} (hv : ∀ a, requestVia (f a) = some v) (hk : ∀ a, requestKind (f a) = kind) :
    DecodesWhen (p.length = 2) v kind (decodeWide f p) := by
  unfold decodeWide
  split
  · exact decodesWhen_request rfl (hv _) (hk _)
  · next hno => exact decodesWhen_refuse fun hlen => match p, hlen with | [a, b], _ => hno a b rfl

theorem decodeChainRules_decodes : DecodesWhen (p.length = 3) v 0x61#8 (decodeChainRules v p) := by
  unfold decodeChainRules
  split
  · exact decodesWhen_request rfl rfl rfl
  · next hno => exact decodesWhen_refuse fun hlen => match p, hlen with | [_, _, _], _ => hno _ _ _ rfl

theorem decodeBoard_decodes : DecodesWhen (p.length = 4) v 0x30#8 (decodeBoard v p) := by
  unfold decodeBoard
  split
  · exact decodesWhen_request rfl rfl rfl
  · next hno => exact decodesWhen_refuse fun hlen => match p, hlen with | [_, _, _, _], _ => hno _ _ _ _ rfl

theorem decodeSupervisor_decodes : DecodesWhen (p.length = 5) v 0x25#8 (decodeSupervisor v p) := by
  unfold decodeSupervisor
  split
  · exact decodesWhen_request rfl rfl rfl
  · next hno => exact decodesWhen_refuse fun hlen => match p, hlen with | [_, _, _, _, _], _ => hno _ _ _ _ _ rfl

theorem decodeTimeMark_decodes : DecodesWhen (p.length = 6) v 0x10#8 (decodeTimeMark v p) := by
  unfold decodeTimeMark
  split
  · exact decodesWhen_request rfl rfl rfl
  · next hno => exact decodesWhen_refuse fun hlen => match p, hlen with | [_, _, _, _, _, _], _ => hno _ _ _ _ _ _ rfl

theorem decodeClockRules_decodes : DecodesWhen (p.length = 6) v 0x11#8 (decodeClockRules v p) := by
  unfold decodeClockRules
  split
  · exact decodesWhen_request rfl rfl rfl
  · next hno => exact decodesWhen_refuse fun hlen => match p, hlen with | [_, _, _, _, _, _], _ => hno _ _ _ _ _ _ rfl

theorem decodeBrightness_decodes : DecodesWhen (p.length = 6) v 0x70#8 (decodeBrightness v p) := by
  unfold decodeBrightness
  split
  · exact decodesWhen_request rfl rfl rfl
  · next hno => exact decodesWhen_refuse fun hlen => match p, hlen with | [_, _, _, _, _, _], _ => hno _ _ _ _ _ _ rfl

theorem decodeOverlay_decodes : DecodesWhen (p.length = 8) v 0x40#8 (decodeOverlay v p) := by
  unfold decodeOverlay
  split
  · exact decodesWhen_request rfl rfl rfl
  · next hno => exact decodesWhen_refuse fun hlen => match p, hlen with | [_, _, _, _, _, _, _, _], _ => hno _ _ _ _ _ _ _ _ rfl

theorem decodePanel_decodes : DecodesWhen (p.length = 10) v 0x31#8 (decodePanel v p) := by
  unfold decodePanel
  split
  · exact decodesWhen_request rfl rfl rfl
  · next hno =>
    exact decodesWhen_refuse fun hlen => match p, hlen with | [_, _, _, _, _, _, _, _, _, _], _ => hno _ _ _ _ _ _ _ _ _ _ rfl

theorem decodePut_decodes : DecodesWhen (p.length = 14) v 0x21#8 (decodePut v p) := by
  unfold decodePut
  split
  · exact decodesWhen_request rfl rfl rfl
  · next hno =>
    exact decodesWhen_refuse fun hlen => match p, hlen with
      | [_, _, _, _, _, _, _, _, _, _, _, _, _, _], _ => hno _ _ _ _ _ _ _ _ _ _ _ _ _ _ rfl

theorem decodeCountdown_decodes : DecodesWhen (p.length = 14) v 0x35#8 (decodeCountdown v p) := by
  unfold decodeCountdown
  split
  · exact decodesWhen_request rfl rfl rfl
  · next hno =>
    exact decodesWhen_refuse fun hlen => match p, hlen with
      | [_, _, _, _, _, _, _, _, _, _, _, _, _, _], _ => hno _ _ _ _ _ _ _ _ _ _ _ _ _ _ rfl

theorem decodeCurve_decodes : DecodesWhen (p.length = 18) v 0x71#8 (decodeCurve v p) := by
  unfold decodeCurve
  split
  · exact decodesWhen_request rfl rfl rfl
  · next hno =>
    exact decodesWhen_refuse fun hlen => match p, hlen with
      | [_, _, _, _, _, _, _, _, _, _, _, _, _, _, _, _, _, _], _ => hno _ _ _ _ _ _ _ _ _ _ _ _ _ _ _ _ _ _ rfl

/-- RESET_UNIT by its scope, ALL or TABLES; another scope is refused with BAD_FIELD, and another size with BAD_LENGTH (R173). -/
theorem decodeReset_decodes :
    (∀ scope : Byte, p = [scope] → scope.toNat ≤ 1 →
        ∃ c, decodeReset v p = .request c ∧ requestVia c = some v ∧ requestKind c = 0x03#8)
      ∧ (∀ scope : Byte, p = [scope] → 1 < scope.toNat → decodeReset v p = .refuse .badField)
      ∧ (p.length ≠ 1 → decodeReset v p = .refuse .badLength) := by
  refine ⟨?_, ?_, fun hlen => ?_⟩
  · rintro scope rfl hle
    by_cases h0 : scope = 0#8
    · exact ⟨.resetUnitAll v, if_pos h0, rfl, rfl⟩
    · have h1 : scope = 1#8 := by bv_omega
      exact ⟨.resetUnitTables v, (if_neg h0).trans (if_pos h1), rfl, rfl⟩
  · rintro scope rfl hlt
    have h0 : scope ≠ 0#8 := by rintro rfl; simp at hlt
    have h1 : scope ≠ 1#8 := by rintro rfl; simp at hlt
    exact (if_neg h0).trans (if_neg h1)
  · unfold decodeReset
    split
    · exact absurd rfl hlen
    · rfl

theorem decodePage_decodes : DecodesWhen (∃ k, p[4]? = some k ∧ p.length = 5 + 26 * k.toNat) v 0x33#8 (decodePage v p) := by
  unfold decodePage
  split
  · next i d l f k rest =>
    split
    · next h => exact decodesWhen_request ⟨k, rfl, by simp [h]; omega⟩ rfl rfl
    · next h =>
      refine decodesWhen_refuse ?_
      rintro ⟨k', hk, hlen⟩
      obtain rfl : k = k' := Option.some.inj hk
      simp only [List.length_cons] at hlen
      exact h (by omega)
  · next hno =>
    refine decodesWhen_refuse ?_
    rintro ⟨k, hk, -⟩
    exact match p, hk with | i :: d :: l :: f :: k :: rest, _ => hno i d l f k rest rfl

theorem decodePhrase_decodes :
    DecodesWhen (∃ l0 l1 l2, p[2]? = some l0 ∧ p[3]? = some l1 ∧ p[4]? = some l2 ∧ p.length = 5 + l0.toNat + l1.toNat + l2.toNat) v 0x50#8
      (decodePhrase v p) := by
  unfold decodePhrase
  split
  · next i1 i0 l0 l1 l2 rest =>
    split
    · next h => exact decodesWhen_request ⟨l0, l1, l2, rfl, rfl, rfl, by simp [h]; omega⟩ rfl rfl
    · next h =>
      refine decodesWhen_refuse ?_
      rintro ⟨k0, k1, k2, h0, h1, h2, hlen⟩
      cases h0
      cases h1
      cases h2
      simp only [List.length_cons] at hlen
      exact h (by omega)
  · next hno =>
    refine decodesWhen_refuse ?_
    rintro ⟨k0, k1, k2, -, -, h2, -⟩
    exact match p, h2 with | i1 :: i0 :: l0 :: l1 :: l2 :: rest, _ => hno i1 i0 l0 l1 l2 rest rfl

theorem decodeGlyphs_decodes : DecodesWhen (∃ c, p[4]? = some c ∧ 5 + c.toNat ≤ p.length) v 0x52#8 (decodeGlyphs v p) := by
  unfold decodeGlyphs
  split
  · next f h s c n rest =>
    split
    · next hle => exact decodesWhen_request ⟨n, rfl, by simp; omega⟩ rfl rfl
    · next hle =>
      refine decodesWhen_refuse ?_
      rintro ⟨k, hk, hlen⟩
      cases hk
      simp only [List.length_cons] at hlen
      exact hle (by omega)
  · next hno =>
    refine decodesWhen_refuse ?_
    rintro ⟨k, hk, -⟩
    exact match p, hk with | i :: d :: l :: f :: k :: rest, _ => hno i d l f k rest rfl

theorem decodePalette_decodes : DecodesWhen (∃ c, p[1]? = some c ∧ p.length = 2 + 3 * c.toNat) v 0x60#8 (decodePalette v p) := by
  unfold decodePalette
  split
  · next f n rest =>
    split
    · next h => exact decodesWhen_request ⟨n, rfl, by simp [h]; omega⟩ rfl rfl
    · next h =>
      refine decodesWhen_refuse ?_
      rintro ⟨k, hk, hlen⟩
      cases hk
      simp only [List.length_cons] at hlen
      exact h (by omega)
  · next hno =>
    refine decodesWhen_refuse ?_
    rintro ⟨k, hk, -⟩
    exact match p, hk with | f :: n :: rest, _ => hno f n rest rfl

end

end Sys2Proof.Machine

end

/-! REQUEST_TAKE: the kinds of Table 12-1, and the oldest frame. -/

section

namespace Sys2Proof.Machine

open Sys2Proof

/-! ### The kinds (R169, Tables 12-1, 13-3 and 13-5) -/

theorem fixedSizes_nodup : (fixedSizes.map Prod.fst).Nodup := by decide

/-- Each kind of one size but RESET_UNIT decodes when the payload has that size. -/
theorem decodeRequest_fixed (v : Via) (p : List Byte) :
    ∀ e ∈ fixedSizes, e.1 ≠ 0x03#8 → DecodesWhen (p.length = e.2) v e.1 (decodeRequest v e.1 p) := by
  simp only [fixedSizes, List.map_cons, List.map_nil, List.cons_append, List.nil_append, List.forall_mem_cons, List.not_mem_nil,
    false_implies, implies_true, and_true]
  exact ⟨fun _ => decodeEmpty_decodes rfl rfl, fun _ => decodeEmpty_decodes rfl rfl, fun _ => decodeEmpty_decodes rfl rfl,
    fun _ => decodeEmpty_decodes rfl rfl, fun _ => decodeEmpty_decodes rfl rfl, fun _ => decodeEmpty_decodes rfl rfl,
    fun _ => decodeEmpty_decodes rfl rfl,
    fun h => absurd rfl h, fun _ => decodeByte_decodes (fun _ => rfl) fun _ => rfl, fun _ => decodeByte_decodes (fun _ => rfl) fun _ => rfl,
    fun _ => decodeByte_decodes (fun _ => rfl) fun _ => rfl, fun _ => decodeByte_decodes (fun _ => rfl) fun _ => rfl,
    fun _ => decodeByte_decodes (fun _ => rfl) fun _ => rfl, fun _ => decodeByte_decodes (fun _ => rfl) fun _ => rfl,
    fun _ => decodeByte_decodes (fun _ => rfl) fun _ => rfl,
    fun _ => decodeWide_decodes (fun _ => rfl) fun _ => rfl, fun _ => decodeTwo_decodes (fun _ _ => rfl) fun _ _ => rfl,
    fun _ => decodeTwo_decodes (fun _ _ => rfl) fun _ _ => rfl, fun _ => decodeTwo_decodes (fun _ _ => rfl) fun _ _ => rfl,
    fun _ => decodeWide_decodes (fun _ => rfl) fun _ => rfl, fun _ => decodeWide_decodes (fun _ => rfl) fun _ => rfl,
    fun _ => decodeWide_decodes (fun _ => rfl) fun _ => rfl, fun _ => decodeWide_decodes (fun _ => rfl) fun _ => rfl,
    fun _ => decodeChainRules_decodes, fun _ => decodeBoard_decodes, fun _ => decodeSupervisor_decodes, fun _ => decodeTimeMark_decodes,
    fun _ => decodeClockRules_decodes, fun _ => decodeBrightness_decodes, fun _ => decodeOverlay_decodes, fun _ => decodePanel_decodes,
    fun _ => decodePut_decodes, fun _ => decodeCountdown_decodes, fun _ => decodeCurve_decodes⟩

theorem fixedSizes_unique {kind : Byte} {n m : Nat} (hn : (kind, n) ∈ fixedSizes) (hm : (kind, m) ∈ fixedSizes) : n = m :=
  congrArg Prod.snd (List.inj_on_of_nodup_map fixedSizes_nodup hn hm rfl)

theorem sized_not_fixed {kind : Byte} (h : kind = 0x33#8 ∨ kind = 0x50#8 ∨ kind = 0x52#8 ∨ kind = 0x60#8) (n : Nat) : (kind, n) ∉ fixedSizes := by
  have hkinds : ∀ k ∈ [0x33#8, 0x50#8, 0x52#8, 0x60#8], k ∉ fixedSizes.map Prod.fst := by decide
  exact fun hmem => hkinds kind (by simpa using h) (List.mem_map_of_mem (f := Prod.fst) hmem)

theorem sizeFits_fixed {kind : Byte} {n : Nat} (h : (kind, n) ∈ fixedSizes) (p : List Byte) : SizeFits kind p ↔ p.length = n := by
  refine ⟨fun hfits => ?_, fun hlen => .inl (hlen ▸ h)⟩
  rcases hfits with hmem | ⟨hk, -⟩ | ⟨hk, -⟩ | ⟨hk, -⟩ | ⟨hk, -⟩
  · exact fixedSizes_unique hmem h
  all_goals exact absurd h (sized_not_fixed (by simp [hk]) n)

theorem sizeFits_page (p : List Byte) : SizeFits 0x33#8 p ↔ ∃ k, p[4]? = some k ∧ p.length = 5 + 26 * k.toNat := by
  simp [SizeFits, sized_not_fixed]

theorem sizeFits_phrase (p : List Byte) :
    SizeFits 0x50#8 p ↔ ∃ l0 l1 l2, p[2]? = some l0 ∧ p[3]? = some l1 ∧ p[4]? = some l2 ∧ p.length = 5 + l0.toNat + l1.toNat + l2.toNat := by
  simp [SizeFits, sized_not_fixed]

theorem sizeFits_glyphs (p : List Byte) : SizeFits 0x52#8 p ↔ ∃ c, p[4]? = some c ∧ 5 + c.toNat ≤ p.length := by
  simp [SizeFits, sized_not_fixed]

theorem sizeFits_palette (p : List Byte) : SizeFits 0x60#8 p ↔ ∃ c, p[1]? = some c ∧ p.length = 2 + 3 * c.toNat := by
  simp [SizeFits, sized_not_fixed]

/-- A kind of Table 12-1 but RESET_UNIT decodes when the payload has the size of Table 13-5. -/
theorem decodeRequest_named {kind : Byte} (hk : KindNamed kind) (hne : kind ≠ 0x03#8) (v : Via) (p : List Byte) :
    DecodesWhen (SizeFits kind p) v kind (decodeRequest v kind p) := by
  rcases hk with ⟨n, hn⟩ | rfl | rfl | rfl | rfl
  · rw [DecodesWhen, sizeFits_fixed hn]
    exact decodeRequest_fixed v p (kind, n) hn hne
  · rw [DecodesWhen, sizeFits_page]
    exact decodePage_decodes
  · rw [DecodesWhen, sizeFits_phrase]
    exact decodePhrase_decodes
  · rw [DecodesWhen, sizeFits_glyphs]
    exact decodeGlyphs_decodes
  · rw [DecodesWhen, sizeFits_palette]
    exact decodePalette_decodes

/-- The kind codes that the decoder knows are those of Table 12-1. -/
theorem decodeRequest_unnamed {kind : Byte} (h : ¬ KindNamed kind) (v : Via) (p : List Byte) : decodeRequest v kind p = .refuse .unknownKind := by
  have hfixed : ∀ k ∈ fixedSizes.map Prod.fst, kind.toNat ≠ k.toNat := by
    rintro k hk hnat
    obtain ⟨e, he, rfl⟩ := List.mem_map.mp hk
    exact h (.inl ⟨e.2, BitVec.eq_of_toNat_eq hnat ▸ he⟩)
  have hsized : ∀ k ∈ [0x33#8, 0x50#8, 0x52#8, 0x60#8], kind.toNat ≠ k.toNat := by
    rintro k hk hnat
    rw [← BitVec.eq_of_toNat_eq hnat] at hk
    exact h (.inr (by simpa using hk))
  simp only [fixedSizes, List.map_cons, List.map_nil, List.cons_append, List.nil_append, List.forall_mem_cons, List.not_mem_nil,
    false_implies, implies_true, and_true, BitVec.toNat_ofNat, Nat.reducePow, Nat.reduceMod] at hfixed hsized
  unfold decodeRequest
  split
  case h_39 => rfl
  all_goals next heq => simp [heq] at hfixed hsized

/-! ### The oldest frame (R162, R168) -/

/-- Of two takings the one whose frame is the older; the first of two equally old. -/
def olderTaking (next : Nat) (best : Option (Slot × Slots)) (t : Slot × Slots) : Option (Slot × Slots) :=
  match best with
  | none => some t
  | some b => if stampAge next b.1.stamp < stampAge next t.1.stamp then some t else some b

theorem oldestTaking_eq (next : Nat) (sl : Slots) : oldestTaking next sl = (takings sl).foldl (olderTaking next) none := rfl

/-- The taking that a walk keeps is the oldest it has met. -/
theorem foldl_olderTaking (next : Nat) (ts : List (Slot × Slots)) (b : Slot × Slots) :
    ∃ m, ts.foldl (olderTaking next) (some b) = some m ∧ m ∈ b :: ts
      ∧ ∀ t ∈ b :: ts, stampAge next t.1.stamp ≤ stampAge next m.1.stamp := by
  induction ts generalizing b with
  | nil => exact ⟨b, rfl, by simp, by simp⟩
  | cons t ts ih =>
    rw [List.foldl_cons]
    by_cases hlt : stampAge next b.1.stamp < stampAge next t.1.stamp
    · obtain ⟨m, hm, hmem, hmax⟩ := ih t
      refine ⟨m, by rw [olderTaking, if_pos hlt, hm], List.mem_cons_of_mem _ hmem, List.forall_mem_cons.mpr ⟨?_, hmax⟩⟩
      exact (le_of_lt hlt).trans (hmax t List.mem_cons_self)
    · obtain ⟨m, hm, hmem, hmax⟩ := ih b
      obtain ⟨hb, hts⟩ := List.forall_mem_cons.mp hmax
      refine ⟨m, by rw [olderTaking, if_neg hlt, hm], ?_, List.forall_mem_cons.mpr ⟨hb, List.forall_mem_cons.mpr ⟨?_, hts⟩⟩⟩
      · rcases List.mem_cons.mp hmem with rfl | hmem
        · exact List.mem_cons_self
        · exact List.mem_cons_of_mem _ (List.mem_cons_of_mem _ hmem)
      · exact (Nat.not_lt.mp hlt).trans hb

/-- A taking parts the frames held into the one taken and the rest. -/
theorem takings_spec (sl : Slots) :
    (∀ t ∈ takings sl, (heldFrames sl).Perm (t.1 :: heldFrames t.2)) ∧ (takings sl).map (fun t => t.1) = heldFrames sl := by
  obtain ⟨s1, s2, s3⟩ := sl
  cases s1 <;> cases s2 <;> cases s3 <;> simp [takings, heldFrames, List.Perm.swap]
  case some.some.some f g h => exact List.perm_append_comm (l₁ := [f, g]) (l₂ := [h])

/-- With a frame held, the taking of the oldest. -/
theorem oldestTaking_some {sl : Slots} (h : heldFrames sl ≠ []) (next : Nat) :
    ∃ t, oldestTaking next sl = some t ∧ (heldFrames sl).Perm (t.1 :: heldFrames t.2)
      ∧ ∀ g ∈ heldFrames sl, stampAge next g.stamp ≤ stampAge next t.1.stamp := by
  obtain ⟨hperm, hfst⟩ := takings_spec sl
  rw [oldestTaking_eq]
  cases hts : takings sl with
  | nil => rw [hts] at hfst; exact absurd hfst.symm h
  | cons b ts =>
    obtain ⟨m, hm, hmem, hmax⟩ := foldl_olderTaking next ts b
    refine ⟨m, hm, hperm m (hts ▸ hmem), fun g hg => ?_⟩
    rw [← hfst, hts] at hg
    obtain ⟨t, ht, rfl⟩ := List.mem_map.mp hg
    exact hmax t ht

theorem oldestTaking_none {sl : Slots} (h : heldFrames sl = []) (next : Nat) : oldestTaking next sl = none := by
  obtain ⟨-, hfst⟩ := takings_spec sl
  rw [h, List.map_eq_nil_iff] at hfst
  rw [oldestTaking_eq, hfst]
  rfl

/-! ### REQUEST_TAKE -/

theorem handlerFree_iff (s : State) : handlerFree s = true ↔ s.handler.current = none ∧ s.handler.reset = .none := by
  simp [handlerFree]

theorem requestTake_eq (s : State) :
    exec .requestTake s = .next (if handlerFree s = true then
      match oldestTaking s.line.nextStamp s.line.slots with
      | none => s
      | some t => checkTaken t.1 (setLine { s.line with slots := t.2 } s)
      else s) := rfl

theorem checkTaken_ignored {f : Slot} (hr : isReadingKind f.kind = true) (ha : f.addressing ≠ .unit) (s : State) : checkTaken f s = s :=
  if_pos ⟨hr, ha⟩

theorem checkTaken_checked {f : Slot} (h : isReadingKind f.kind = false ∨ f.addressing = .unit) (s : State) :
    (∀ code, decodeRequest (slotVia f) f.kind f.payload = .refuse code →
        checkTaken f s = finish (slotVia f) f.kind f.seq false (.refused code) s)
      ∧ ∀ c, decodeRequest (slotVia f) f.kind f.payload = .request c →
        checkTaken f s = { s with handler := { s.handler with current := some { slot := f, lost := false } } } := by
  have hcheck : ¬ (isReadingKind f.kind = true ∧ f.addressing ≠ .unit) := by
    rintro ⟨hr, ha⟩
    exact h.elim (fun hf => by simp [hr] at hf) ha
  rw [checkTaken, if_neg hcheck]
  exact ⟨fun code hd => by rw [hd], fun c hd => by rw [hd]⟩

/-- Settles O28, by the oldest frame of the slots and the table of kinds. -/
theorem oldestFrameTaken : Obligations.OldestFrameTaken := by
  refine ⟨fun s hno => ?_, fun s hcur hreset hheld => ?_, fun v kind p => ⟨fun hk => decodeRequest_unnamed hk v p, fun hk hsize => ?_,
    fun scope hk hp hlt => ?_, fun hsize hscope => ?_⟩⟩
  · rw [requestTake_eq]
    split
    · next hfree =>
      obtain ⟨hcur, hreset⟩ := (handlerFree_iff s).mp hfree
      rw [oldestTaking_none ((hno.resolve_left fun h => h hcur).resolve_left fun h => h hreset)]
    · rfl
  · obtain ⟨t, ht, hperm, hold⟩ := oldestTaking_some hheld s.line.nextStamp
    have hexec : exec .requestTake s = .next (checkTaken t.1 { s with line := { s.line with slots := t.2 } }) := by
      rw [requestTake_eq, if_pos ((handlerFree_iff s).mpr ⟨hcur, hreset⟩), ht]
      rfl
    refine ⟨t.1, t.2, _, hperm, rfl, fun g hg => hold g (hperm.mem_iff.mpr (List.mem_cons_of_mem _ hg)), fun hr ha => ?_, fun hcheck => ⟨?_, ?_⟩⟩
    · rw [hexec, checkTaken_ignored hr ha]
    · intro code hd
      rw [hexec, (checkTaken_checked hcheck _).1 code hd]
    · intro c hd
      rw [hexec, (checkTaken_checked hcheck _).2 c hd]
  · by_cases hne : kind = 0x03#8
    · subst hne
      have hlen : p.length ≠ 1 := mt (sizeFits_fixed (n := 1) (by decide) p).mpr hsize
      exact decodeReset_decodes.2.2 hlen
    · exact (decodeRequest_named hk hne v p).2 hsize
  · subst hk
    exact decodeReset_decodes.2.1 scope hp hlt
  · by_cases hne : kind = 0x03#8
    · obtain ⟨scope, hp, hle⟩ := hscope hne
      subst hne
      exact decodeReset_decodes.1 scope hp hle
    · have hk : KindNamed kind := by
        rcases hsize with h | ⟨h, -⟩ | ⟨h, -⟩ | ⟨h, -⟩ | ⟨h, -⟩
        · exact .inl ⟨_, h⟩
        all_goals exact .inr (by simp [h])
      exact (decodeRequest_named hk hne v p).1 hsize

end Sys2Proof.Machine

end

/-! Every well-formed request is read back from its payload. -/

section

namespace Sys2Proof.Machine

open Sys2Proof

/-! ### Fields (R178) -/

theorem be16_extract (w : BitVec 16) : be16 (w.extractLsb' 8 8) (w.extractLsb' 0 8) = w :=
  (BitVec.extractLsb'_append_extractLsb'_eq_extractLsb' rfl).trans BitVec.extractLsb'_eq_self

theorem be24_extract (w : BitVec 24) : be24 (w.extractLsb' 16 8) (w.extractLsb' 8 8) (w.extractLsb' 0 8) = w := by
  have hhigh : w.extractLsb' 16 8 ++ w.extractLsb' 8 8 = w.extractLsb' 8 16 := BitVec.extractLsb'_append_extractLsb'_eq_extractLsb' rfl
  rw [be24, hhigh]
  exact (BitVec.extractLsb'_append_extractLsb'_eq_extractLsb' rfl).trans BitVec.extractLsb'_eq_self

theorem decodeBody_encodeBody {b : RawBody} (h : ∀ k, b = .other k → 4 ≤ k.toNat) (rest : List Byte) :
    decodeBody (bodyKind b) (encodeBody b ++ rest) = b := by
  cases b with
  | other k =>
    have hk := h k rfl
    unfold decodeBody
    split
    case h_5 => rfl
    all_goals next heq _ => simp only [bodyKind] at heq; omega
  | _ => simp [decodeBody, bodyKind, encodeBody, encodeField, bytes16, be16_extract]

theorem length_encodeBody (b : RawBody) : (encodeBody b).length = 16 := by cases b <;> rfl

theorem length_encodeLine (l : RawLine) : (encodeLine l).length = 26 := by
  simp [encodeLine, length_encodeBody, bytes16]

theorem decodeLines_encode (ls : List RawLine) (h : ∀ l ∈ ls, l.wf = true) : decodeLines ls.length (ls.flatMap encodeLine) = ls := by
  induction ls with
  | nil => rfl
  | cons l ls ih =>
    obtain ⟨hl, hls⟩ := List.forall_mem_cons.mp h
    have hbody : decodeBody (bodyKind l.body) (encodeBody l.body ++ ls.flatMap encodeLine) = l.body :=
      decodeBody_encodeBody (fun k hk => by simpa [RawLine.wf, hk] using hl) _
    have hdrop : (encodeBody l.body ++ ls.flatMap encodeLine).drop 16 = ls.flatMap encodeLine := by
      rw [List.drop_left' (length_encodeBody _)]
    simp only [List.length_cons, List.flatMap_cons, encodeLine, bytes16, List.cons_append, List.nil_append, decodeLines, be16_extract, hbody,
      hdrop, ih hls]

theorem length_flatMap_encodeLine (ls : List RawLine) : (ls.flatMap encodeLine).length = 26 * ls.length := by
  simp [List.length_flatMap, length_encodeLine, mul_comm]

theorem decodeRGBs_encode (es : List RGB) : decodeRGBs (es.flatMap fun e => [e.r, e.g, e.b]) = es := by
  induction es with
  | nil => rfl
  | cons e es ih => simp [decodeRGBs, ih]

/-! ### The round trip -/

/-- A request of one size. -/
theorem decode_fixed {c : Instr} {v : Via} (hv : requestVia c = some v) (hk : requestKind c ∉ [0x33#8, 0x50#8, 0x52#8, 0x60#8]) :
    decodeRequest v (requestKind c) (requestPayload c) = .request c ∧ (requestPayload c).length ≤ 240 := by
  cases c
  all_goals cases hv
  case setPage => simp [requestKind] at hk
  case setPhrase => simp [requestKind] at hk
  case setGlyphs => simp [requestKind] at hk
  case setPalette => simp [requestKind] at hk
  all_goals simp [requestKind, requestPayload, decodeRequest, decodeEmpty, decodeByte, decodeTwo, decodeWide, decodeReset, decodeTimeMark,
    decodeClockRules, decodePut, decodeSupervisor, decodeBoard, decodePanel, decodeCountdown, decodeOverlay, decodeChainRules,
    decodeBrightness, decodeCurve, bytes16, bytes24, be16_extract, be24_extract]

theorem decode_page {v : Via} {i d l f : Byte} {ls : List RawLine} (hlen : 5 + 26 * ls.length ≤ 240) (hls : ∀ r ∈ ls, r.wf = true) :
    decodeRequest v 0x33#8 (requestPayload (.setPage v i d l f ls)) = .request (.setPage v i d l f ls)
      ∧ (requestPayload (.setPage v i d l f ls)).length ≤ 240 := by
  have hcount : (countByte ls.length).toNat = ls.length := toNat_countByte (by omega)
  have hbytes := length_flatMap_encodeLine ls
  refine ⟨?_, by simp only [requestPayload, List.length_append, hbytes]; simpa using hlen⟩
  change decodePage v (i :: d :: l :: f :: countByte ls.length :: ls.flatMap encodeLine) = _
  rw [decodePage, if_pos (by rw [hbytes, hcount]), hcount, decodeLines_encode ls hls]

theorem decode_phrase {v : Via} {i : BitVec 16} {a b c : List Byte} (hlen : 5 + a.length + b.length + c.length ≤ 240) :
    decodeRequest v 0x50#8 (requestPayload (.setPhrase v i a b c)) = .request (.setPhrase v i a b c)
      ∧ (requestPayload (.setPhrase v i a b c)).length ≤ 240 := by
  have ha : (countByte a.length).toNat = a.length := toNat_countByte (by omega)
  have hb : (countByte b.length).toNat = b.length := toNat_countByte (by omega)
  have hc : (countByte c.length).toNat = c.length := toNat_countByte (by omega)
  have hpayload : requestPayload (.setPhrase v i a b c) = i.extractLsb' 8 8 :: i.extractLsb' 0 8 :: countByte a.length :: countByte b.length
      :: countByte c.length :: (a ++ b ++ c) := by simp [requestPayload, bytes16]
  rw [hpayload]
  refine ⟨?_, by simp; omega⟩
  change decodePhrase v (i.extractLsb' 8 8 :: i.extractLsb' 0 8 :: countByte a.length :: countByte b.length
    :: countByte c.length :: (a ++ b ++ c)) = _
  rw [decodePhrase, if_pos (by simp [ha, hb, hc, add_assoc]), ha, hb, be16_extract]
  simp [List.drop_append]

theorem decode_glyphs {v : Via} {f h s c : Byte} {ws bs : List Byte} (hlen : 5 + ws.length + bs.length ≤ 240) :
    decodeRequest v 0x52#8 (requestPayload (.setGlyphs v f h s c ws bs)) = .request (.setGlyphs v f h s c ws bs)
      ∧ (requestPayload (.setGlyphs v f h s c ws bs)).length ≤ 240 := by
  have hw : (countByte ws.length).toNat = ws.length := toNat_countByte (by omega)
  refine ⟨?_, by simp [requestPayload]; omega⟩
  change decodeGlyphs v (f :: h :: s :: c :: countByte ws.length :: (ws ++ bs)) = _
  rw [decodeGlyphs, if_pos (by simp [hw]), hw, List.take_left, List.drop_left]

theorem decode_palette {v : Via} {f : Byte} {es : List RGB} (hlen : 2 + 3 * es.length ≤ 240) :
    decodeRequest v 0x60#8 (requestPayload (.setPalette v f es)) = .request (.setPalette v f es)
      ∧ (requestPayload (.setPalette v f es)).length ≤ 240 := by
  have he : (countByte es.length).toNat = es.length := toNat_countByte (by omega)
  have hbytes : (es.flatMap fun e => [e.r, e.g, e.b]).length = 3 * es.length := by simp [List.length_flatMap, mul_comm]
  refine ⟨?_, by simp only [requestPayload, List.length_append, hbytes]; simpa using hlen⟩
  change decodePalette v (f :: countByte es.length :: es.flatMap fun e => [e.r, e.g, e.b]) = _
  rw [decodePalette, if_pos (by rw [hbytes, he]), decodeRGBs_encode]

/-- Settles O56, by the kind: the four that carry lists, and the rest. -/
theorem requestRoundTrip : Obligations.RequestRoundTrip := by
  intro c v hv hwf
  by_cases hk : requestKind c ∈ [0x33#8, 0x50#8, 0x52#8, 0x60#8]
  · cases c
    case setPage w i d l f ls =>
      cases hv
      obtain ⟨hlen, hls⟩ := Bool.and_eq_true_iff.mp hwf
      exact decode_page (of_decide_eq_true hlen) (List.all_eq_true.mp hls)
    case setPhrase w i a b c => cases hv; exact decode_phrase (of_decide_eq_true hwf)
    case setGlyphs w f h s c ws bs => cases hv; exact decode_glyphs (of_decide_eq_true hwf)
    case setPalette w f es => cases hv; exact decode_palette (of_decide_eq_true hwf)
    all_goals simp [requestKind] at hk
  · exact decode_fixed hv hk

end Sys2Proof.Machine

end

/-! TIME_MARK (R42 to R46). -/

section

namespace Sys2Proof.Machine

open Sys2Proof

theorem signed2_zero : signed2 0 = [0#8, 0#8] := by decide

section

variable {day m : Nat} {s : State}

theorem applyMark_unset (h : s.clock.state = .unset) : applyMark day m s = (setClock { stepTo m s.clock with day := day } s, .first) := if_pos h

/-- A mark of another day number sets the clock and empties the table (R44, R14). -/
theorem applyMark_otherDay (h : s.clock.state ≠ .unset) (hd : day ≠ s.clock.day) :
    applyMark day m s = (offer .clockDayChanged day (clearTable (setClock { stepTo m s.clock with day := day } s)), .dayChanged) :=
  (if_neg h).trans (if_pos hd)

theorem applyMark_acquiring (h : s.clock.state = .acquiring) (hd : day = s.clock.day) : applyMark day m s = markAcquiring m s := by
  rw [applyMark, if_neg (by simp [h]), if_neg (by simp [hd]), h]

theorem applyMark_lapsed (h : s.clock.state = .lapsed) (hd : day = s.clock.day) : applyMark day m s = (setClock (stepTo m s.clock) s, .stepped) := by
  rw [applyMark, if_neg (by simp [h]), if_neg (by simp [hd]), h]

theorem applyMark_locked (h : s.clock.state = .locked ∨ s.clock.state = .coasting) (hd : day = s.clock.day) :
    applyMark day m s = markLocked m s := by
  rw [applyMark, if_neg (by rcases h with h | h <;> simp [h]), if_neg (by simp [hd])]
  rcases h with h | h <;> rw [h]

theorem markAgrees_iff : markAgrees m s.clock = true ↔ ((m : Int) - s.clock.value).natAbs ≤ s.clock.tol * 16 := decide_eq_true_iff

theorem markAcquiring_locks (h : markAgrees m s.clock = true) (hk : s.clock.k ≤ s.clock.agree + 1) :
    markAcquiring m s = (offer .clockLocked s.clock.k (setClock { agreeTo m s.clock with agree := 0, state := .locked } s), .agreed) :=
  (if_pos h).trans (if_pos hk)

theorem markAcquiring_counts (h : markAgrees m s.clock = true) (hk : s.clock.agree + 1 < s.clock.k) :
    markAcquiring m s = (setClock { agreeTo m s.clock with agree := s.clock.agree + 1 } s, .agreed) :=
  (if_pos h).trans (if_neg (Nat.not_le.mpr hk))

theorem markAcquiring_steps (h : ¬ markAgrees m s.clock = true) : markAcquiring m s = (setClock (stepTo m s.clock) s, .stepped) := if_neg h

theorem markLocked_agrees (h : markAgrees m s.clock = true) :
    markLocked m s = (setClock { agreeTo m s.clock with state := .locked } s, .agreed) := if_pos h

theorem markLocked_steps (h : ¬ markAgrees m s.clock = true) :
    markLocked m s = (offer .clockStepped (min 65535 ((markDiff m s.clock).natAbs / 16)) (setClock (stepTo m s.clock) s), .stepped) := if_neg h

end

/-- A mark in range acts on the clock with its age at 0, and the permission is recomputed. -/
theorem timeMark_marked {v : Via} {day : BitVec 16} {sec : BitVec 24} {six : Byte} {s t : State} {a : Admitted} {m : Nat} {o : MarkOutcome}
    (ha : admission (.timeMark v day sec six) s = some a) (hm : m = sec.toNat * 16 + six.toNat) (hsec : sec.toNat ≤ 107999)
    (hsix : six.toNat ≤ 15) (happly : applyMark day.toNat m (setClock { a.state.clock with age := 0 } a.state) = (t, o)) :
    exec (.timeMark v day sec six) s = answered v (.timeMark v day sec six) a
      (done ([clockStateByte t.clock.state, outcomeByte o] ++ signed2 (reportedD o ((m : Int) - a.state.clock.value)))) (recompute t) := by
  refine request_answered ha ?_
  have hrange : ¬ (maxSeconds < sec.toNat ∨ 15 < six.toNat) := by
    unfold maxSeconds
    omega
  rw [timeMarkBody, if_neg hrange]
  simp only [← hm, happly, recompute_clock]
  rfl

theorem atHoldValue (n : Nat) : (n == holdValue) = decide (n = 1727999) := beq_eq_decide _ _

/-- Settles O36, by the clock's state, the mark's day number and whether it agrees. -/
theorem timeMarkTaken : Obligations.TimeMarkTaken := by
  rintro v day sec six s a m d shownD agrees ha hm rfl rfl hagrees
  rw [← admission_state_clock ha] at hagrees
  replace hagrees : agrees ↔ markAgrees m (setClock { a.state.clock with age := 0 } a.state).clock = true := hagrees.trans markAgrees_iff.symm
  rw [← admission_state_clock ha, ← admission_state_table ha, ← admission_state_notices ha, ← admission_state_unit ha]
  refine ⟨fun hbad => ?_, fun hsec hsix => ⟨fun h => ?_, fun h hd => ?_, fun h hd hag hk => ?_, fun h hd hag hk => ?_, fun h hd hag => ?_,
    fun h hd hag => ?_, fun h hd => ?_⟩⟩
  · exact request_answered ha (if_pos hbad)
  · have happly := applyMark_unset (day := day.toNat) (m := m) (s := setClock { a.state.clock with age := 0 } a.state) h
    rw [timeMark_marked ha hm hsec hsix happly, reportedD, signed2_zero]
    rfl
  · have happly := applyMark_otherDay (m := m) (s := setClock { a.state.clock with age := 0 } a.state) h hd
    rw [timeMark_marked ha hm hsec hsix happly, reportedD, signed2_zero]
    rfl
  · have happly := (applyMark_acquiring (m := m) (s := setClock { a.state.clock with age := 0 } a.state) h hd).trans
      (markAcquiring_counts (hagrees.mp hag) hk)
    rw [timeMark_marked ha hm hsec hsix happly, ← atHoldValue]
    exact congrArg (fun st => answered _ _ _ (done ([clockStateByte st, _] ++ _)) _) h
  · have happly := (applyMark_acquiring (m := m) (s := setClock { a.state.clock with age := 0 } a.state) h hd).trans
      (markAcquiring_locks (hagrees.mp hag) hk)
    rw [timeMark_marked ha hm hsec hsix happly, ← atHoldValue]
    rfl
  · have happly := (applyMark_locked (m := m) (s := setClock { a.state.clock with age := 0 } a.state) h hd).trans
      (markLocked_agrees (hagrees.mp hag))
    rw [timeMark_marked ha hm hsec hsix happly, ← atHoldValue]
    rfl
  · have happly := (applyMark_locked (m := m) (s := setClock { a.state.clock with age := 0 } a.state) h hd).trans
      (markLocked_steps (mt hagrees.mpr hag))
    rw [timeMark_marked ha hm hsec hsix happly]
    rfl
  · have happly : applyMark day.toNat m (setClock { a.state.clock with age := 0 } a.state)
        = (setClock (stepTo m { a.state.clock with age := 0 }) a.state, .stepped) := by
      rcases h with ⟨h, hag⟩ | h
      · exact (applyMark_acquiring (s := setClock { a.state.clock with age := 0 } a.state) h hd).trans
          (markAcquiring_steps (mt hagrees.mpr hag))
      · exact applyMark_lapsed (s := setClock { a.state.clock with age := 0 } a.state) h hd
    rw [timeMark_marked ha hm hsec hsix happly]
    rfl

end Sys2Proof.Machine

end

/-! Batches opened, filled and closed (R20 to R28, R34, R35). -/

section

namespace Sys2Proof.Machine

open Sys2Proof

/-! ### The fields of PUT_DEPARTURE (R21) -/

theorem readStatus_byte (st : Status) : readStatus (statusByte st) = some st := by cases st <;> rfl

theorem readStatus_range {b : Byte} {st : Status} (h : readStatus b = some st) : b.toNat ≤ 3 := by
  unfold readStatus at h
  split at h
  case h_5 => cases h
  all_goals omega

theorem readPredicted_range {n : Nat} {p : Option Nat} (h : readPredicted n = some p) : n = 0xFFFFFF ∨ n ≤ 107999 := by
  unfold readPredicted at h
  split at h
  · next h1 => exact .inl h1
  · split at h
    · next h2 => exact .inr h2
    · cases h

theorem readDepartureRecord_bad {x : RawDeparture} (h : BadDeparture x) : readDepartureRecord x = none := by
  unfold readDepartureRecord
  split
  · next p st hp hst =>
    refine if_neg fun hgood => ?_
    simp only [phraseIdOk, decide_eq_true_eq] at hgood
    obtain ⟨htrip, hplat1, hplat16, hline, hdest, hsched⟩ := hgood
    have hpred := readPredicted_range hp
    have hstatus := readStatus_range hst
    unfold maxSeconds at hsched
    rcases h with h | h | h | h | h | h | h | h | h | h
    · exact htrip h
    · simp [h] at hplat1
    · omega
    · simp [h] at hline
    · omega
    · simp [h] at hdest
    all_goals omega
  · rfl

/-- A record in range is read back from the fields that carry it. -/
theorem readDepartureRecord_raw {d : Departure} (h : DepartureOk d) : readDepartureRecord (rawDeparture d) = some d := by
  obtain ⟨t1, t2, p1, p2, l1, l2, e1, e2, hs, hp⟩ := h
  have htrip : (BitVec.ofNat 16 d.trip).toNat = d.trip := by simp; omega
  have hplat : (BitVec.ofNat 8 d.platform).toNat = d.platform := by simp; omega
  have hline : (BitVec.ofNat 16 d.linePh).toNat = d.linePh := by simp; omega
  have hdest : (BitVec.ofNat 16 d.destPh).toNat = d.destPh := by simp; omega
  have hsched : (BitVec.ofNat 24 d.scheduled).toNat = d.scheduled := by simp; omega
  have hne : BitVec.ofNat 16 d.trip ≠ 0#16 := fun h0 => by simp [h0] at htrip; omega
  have hpred : readPredicted (BitVec.ofNat 24 (d.predicted.getD 0xFFFFFF)).toNat = some d.predicted := by
    cases hd : d.predicted with
    | none => rfl
    | some n =>
      have hn := hp n hd
      have hnat : (BitVec.ofNat 24 n).toNat = n := by simp; omega
      rw [Option.getD_some, hnat, readPredicted, if_neg (by unfold absentTime; omega), if_pos (show n ≤ maxSeconds from hn)]
  unfold readDepartureRecord rawDeparture
  simp only [hpred, readStatus_byte, htrip, hplat, hline, hdest, hsched]
  exact if_pos ⟨hne, p1, p2, decide_eq_true ⟨l1, l2⟩, decide_eq_true ⟨e1, e2⟩, hs⟩

/-! ### Staging (R20 to R23) -/

theorem putStaged_perm {d : Departure} {ds : List Departure} (h : ds.Pairwise fun p q => p.trip < q.trip) :
    (putStaged d ds).Perm (d :: ds.filter fun q => q.trip ≠ d.trip) := by
  induction ds with
  | nil => exact .refl _
  | cons q qs ih =>
    obtain ⟨hq, hqs⟩ := List.pairwise_cons.mp h
    have hkeep (hle : d.trip ≤ q.trip) : qs.filter (fun x => decide (x.trip ≠ d.trip)) = qs :=
      List.filter_eq_self.mpr fun x hx => decide_eq_true (by have := hq x hx; omega)
    rw [putStaged]
    split
    · next hlt => rw [List.filter_cons_of_pos (by simp; omega), hkeep (le_of_lt hlt)]
    · split
      · next heq => rw [List.filter_cons_of_neg (by simp [heq]), hkeep (le_of_eq heq)]
      · next hne =>
        rw [List.filter_cons_of_pos (by simpa using Ne.symm hne)]
        exact ((ih hqs).cons q).trans (.swap _ _ _)

section

variable {s : State} {b : Batch}

theorem stageRequest_closed (h : s.batch.stage = none) (c : Option Change) : stageRequest c s = (s, .refused .noBatch) := by
  rw [stageRequest, h]

theorem stageRequest_bad (h : s.batch.stage = some b) : stageRequest none s = (restartGap b s, .refused .badField) := by
  rw [stageRequest, h]

theorem stageRequest_full {c : Change} (h : s.batch.stage = some b) (hc : stageChange c b.staged = none) :
    stageRequest (some c) s = (restartGap b s, .refused .tableFull) := by
  rw [stageRequest, h]
  simp only [hc]

theorem stageRequest_staged {c : Change} {st : Staged} (h : s.batch.stage = some b) (hc : stageChange c b.staged = some st) :
    stageRequest (some c) s = (restartGap { b with staged := st } s, done (num1 (stagedCount st))) := by
  rw [stageRequest, h]
  simp only [hc]

end

/-- A staging restarts the gap window (R21). -/
theorem restartGap_eq (b : Batch) (s : State) :
    restartGap b s = { s with batch := { s.batch with stage := some { b with gap := s.batch.g } } } := rfl

theorem stageChange_put {d : Departure} {set : List Departure} (h : (∃ q ∈ set, q.trip = d.trip) ∨ set.length < 96) :
    stageChange (.put d) (.replace set) = some (.replace (putStaged d set)) :=
  if_pos (h.imp_left fun ⟨q, hq, heq⟩ => List.any_eq_true.mpr ⟨q, hq, beq_iff_eq.mpr heq⟩)

theorem stageChange_put_full {d : Departure} {set : List Departure} (hno : ∀ q ∈ set, q.trip ≠ d.trip) (h : 96 ≤ set.length) :
    stageChange (.put d) (.replace set) = none := by
  refine if_neg fun hor => hor.elim (fun hany => ?_) (Nat.not_lt.mpr h)
  obtain ⟨q, hq, heq⟩ := List.any_eq_true.mp hany
  exact hno q hq (beq_iff_eq.mp heq)

theorem stageChange_drop (t : Nat) (set : List Departure) :
    stageChange (.drop t) (.replace set) = some (.replace (set.filter fun q => q.trip ≠ t)) := by
  have hkeep : (set.filter fun q => q.trip != t) = set.filter fun q => q.trip ≠ t := List.filter_congr fun q _ => by simp [bne, beq_eq_decide]
  rw [← hkeep]
  rfl

theorem any_changeTrip_iff (e : Change) (cs : List Change) :
    cs.any (fun q => changeTrip q == changeTrip e) = true ↔ ∃ q ∈ cs, changeTrip q = changeTrip e := by
  simp

/-- An entry of a trip staged before takes its place (R23). -/
theorem stageChange_merge_again {e : Change} {cs : List Change} (h : ∃ q ∈ cs, changeTrip q = changeTrip e) :
    stageChange e (.merge cs) = some (.merge (cs.map fun q => if changeTrip q = changeTrip e then e else q)) :=
  if_pos ((any_changeTrip_iff e cs).mpr h)

theorem stageChange_merge_new {e : Change} {cs : List Change} (hno : ∀ q ∈ cs, changeTrip q ≠ changeTrip e) (h : cs.length < 48) :
    stageChange e (.merge cs) = some (.merge (cs ++ [e])) :=
  (if_neg fun hany => let ⟨q, hq, heq⟩ := (any_changeTrip_iff e cs).mp hany; hno q hq heq).trans (if_pos h)

theorem stageChange_merge_full {e : Change} {cs : List Change} (hno : ∀ q ∈ cs, changeTrip q ≠ changeTrip e) (h : 48 ≤ cs.length) :
    stageChange e (.merge cs) = none :=
  (if_neg fun hany => let ⟨q, hq, heq⟩ := (any_changeTrip_iff e cs).mp hany; hno q hq heq).trans (if_neg (Nat.not_lt.mpr h))

theorem batchOpenBody_bad {tag mode : Byte} {s : State} (h : tag = 0#8 ∨ 1 < mode.toNat) :
    batchOpenBody tag mode s = (s, .refused .badField) := by
  unfold batchOpenBody
  dsimp only
  split
  · rfl
  · next c hc =>
    refine if_pos (h.resolve_right fun hbig => ?_)
    have h0 : mode ≠ 0#8 := by rintro rfl; simp at hbig
    have h1 : mode ≠ 1#8 := by rintro rfl; simp at hbig
    rw [if_neg h0, if_neg h1] at hc
    cases hc

/-- A batch opened is empty, with full windows, and supersedes one open before (R20). -/
theorem batchOpenBody_good {tag mode : Byte} {s : State} {x : Batch} (ht : tag ≠ 0#8)
    (hm : (mode = 0#8 ∧ x.staged = .replace []) ∨ (mode = 1#8 ∧ x.staged = .merge [])) (htag : x.tag = tag.toNat) (hg : x.gap = s.batch.g)
    (hw : x.total = s.batch.w) :
    (s.batch.stage = none → batchOpenBody tag mode s = (setStage (some x) s, done [0#8]))
      ∧ ∀ old, s.batch.stage = some old → batchOpenBody tag mode s = (offer .batchSuperseded old.tag (setStage (some x) s), done [1#8]) := by
  obtain ⟨xtag, xstaged, xgap, xtotal⟩ := x
  dsimp only at hm htag hg hw
  subst htag hg hw
  rcases hm with ⟨rfl, rfl⟩ | ⟨rfl, rfl⟩
  all_goals
    refine ⟨fun h => ?_, fun old h => ?_⟩
    all_goals
      simp only [batchOpenBody, h, if_neg ht]
      rfl

theorem putDeparture_answered {v : Via} {d : Departure} {s t : State} {a : Admitted} {ans : Answer} (hd : DepartureOk d)
    (ha : admission (.putDeparture v (rawDeparture d)) s = some a) (hbody : stageRequest (some (.put d)) a.state = (t, ans)) :
    exec (.putDeparture v (rawDeparture d)) s = answered v (.putDeparture v (rawDeparture d)) a ans t := by
  refine request_answered ha ?_
  rw [readDepartureRecord_raw hd]
  exact hbody

theorem dropDeparture_answered {v : Via} {trip : BitVec 16} {s t : State} {a : Admitted} {ans : Answer} (ht : trip ≠ 0#16)
    (ha : admission (.dropDeparture v trip) s = some a) (hbody : stageRequest (some (.drop trip.toNat)) a.state = (t, ans)) :
    exec (.dropDeparture v trip) s = answered v (.dropDeparture v trip) a ans t := by
  refine request_answered ha ?_
  rw [if_neg ht]
  exact hbody

/-- Settles O38, by the batch's mode and whether the trip is staged already. -/
theorem batchOpenedAndFilled : Obligations.BatchOpenedAndFilled := by
  refine ⟨fun v tag mode s a ha => ⟨fun hbad => request_answered ha (batchOpenBody_bad hbad), fun x ht hm htag hg hw => ?opened⟩,
    fun v x trip s a hs => ⟨fun ha => ?noPut, fun ha => ?noDrop⟩, fun v x s a b hs => ⟨fun ha hbad => ?badPut, fun ha => ?badDrop⟩,
    fun v d trip s a b set hs hb hord hd => ⟨fun ha => ⟨fun hroom => ?put, fun hno hfull => ?putFull⟩, fun ha ht => ?drop⟩,
    fun v d trip s a b cs c e hs hb hd ha hce => ?merge⟩
  case opened =>
    rw [← admission_state_batch ha] at hg hw ⊢
    rw [← admission_state_notices ha, ← admission_state_unit ha]
    have hgood := batchOpenBody_good ht hm htag hg hw
    exact ⟨fun h => request_answered ha (hgood.1 h), fun old h => request_answered ha (hgood.2 old h)⟩
  case noPut => exact request_answered ha (stageRequest_closed ((congrArg BatchStage.stage (admission_state_batch ha)).trans hs) _)
  case noDrop => exact request_answered ha (stageRequest_closed ((congrArg BatchStage.stage (admission_state_batch ha)).trans hs) _)
  case badPut =>
    rw [← admission_state_batch ha] at hs ⊢
    have hbody := stageRequest_bad hs
    refine request_answered ha ?_
    rw [readDepartureRecord_bad hbad]
    exact hbody
  case badDrop =>
    rw [← admission_state_batch ha] at hs ⊢
    exact request_answered ha (stageRequest_bad hs)
  case put =>
    rw [← admission_state_batch ha] at hs ⊢
    exact ⟨putStaged d set, putStaged_perm hord, putStaged_ordered hord,
      putDeparture_answered hd ha (stageRequest_staged hs (by rw [hb]; exact stageChange_put hroom))⟩
  case putFull =>
    rw [← admission_state_batch ha] at hs ⊢
    exact putDeparture_answered hd ha (stageRequest_full hs (by rw [hb]; exact stageChange_put_full hno hfull))
  case drop =>
    rw [← admission_state_batch ha] at hs ⊢
    exact dropDeparture_answered ht ha (stageRequest_staged hs (by rw [hb]; exact stageChange_drop trip.toNat set))
  case merge =>
    have hexec : ∀ t ans, stageRequest (some e) a.state = (t, ans) → exec c s = answered v c a ans t := by
      intro t ans hbody
      rcases hce with ⟨rfl, rfl⟩ | ⟨rfl, ht, rfl⟩
      · exact putDeparture_answered hd ha hbody
      · exact dropDeparture_answered ht ha hbody
    rw [← admission_state_batch ha] at hs ⊢
    refine ⟨fun hmem => hexec _ _ ?_, fun hno hroom => hexec _ _ ?_, fun hno hfull => hexec _ _ ?_⟩
    · refine (stageRequest_staged hs (by rw [hb]; exact stageChange_merge_again hmem)).trans ?_
      rw [stagedCount, List.length_map]
      rfl
    · refine (stageRequest_staged hs (by rw [hb]; exact stageChange_merge_new hno hroom)).trans ?_
      rw [stagedCount, List.length_append]
      rfl
    · exact stageRequest_full hs (by rw [hb]; exact stageChange_merge_full hno hfull)

/-! ### Closing (R26 to R28, R34, R35) -/

theorem goodClose_disarmed {s : State} (h : s.sup.state = .disarmed) : goodClose s = s := by rw [goodClose, h]

theorem goodClose_armed {s : State} (h : s.sup.state = .armed) : goodClose s = { s with sup := { s.sup with remaining := s.sup.period } } := by
  rw [goodClose, h]

/-- A good close restores an expired supervisor (R34). -/
theorem goodClose_expired {s : State} (h : s.sup.state = .expired) :
    goodClose s = recompute { s with sup := { s.sup with state := .armed, remaining := s.sup.period },
                                     notices := offerTo s.notices .supRestored s.sup.period s.unit.uptime } := by
  rw [goodClose, h]
  rfl

theorem badClose_armed {s : State} (h : s.sup.state = .armed) :
    badClose s = recompute { s with sup := { s.sup with state := .expired, remaining := 0 },
                                    notices := offerTo s.notices .supExpired 1 s.unit.uptime } := by
  rw [badClose, h]
  rfl

theorem badClose_other {s : State} (h : s.sup.state ≠ .armed) : badClose s = s := by
  unfold badClose
  split
  · next ha => exact absurd ha h
  · rfl

theorem setStage_none_of_closed {s : State} (h : s.batch.stage = none) : setStage none s = s := by
  unfold setStage
  rw [← h]

/-- A tag that does not close the batch discards it (R26). -/
theorem batchCloseBody_bad {tag : Byte} {s : State} {code : ResultCode}
    (h : (s.batch.stage = none ∧ code = .noBatch) ∨ ((∃ b, s.batch.stage = some b ∧ b.tag ≠ tag.toNat) ∧ code = .tagMismatch)) :
    batchCloseBody tag s = (badClose (setStage none s), .refused code) := by
  rcases h with ⟨h, rfl⟩ | ⟨⟨b, h, hne⟩, rfl⟩
  · rw [batchCloseBody, h, setStage_none_of_closed h]
  · rw [batchCloseBody, h]
    exact if_neg (Ne.symm hne)

/-- What a good close leaves before the supervisor is serviced. -/
def published (b : Batch) (s : State) : State :=
  { s with
    table := { s.table with records := (publish b.staged s.table.records).1 },
    batch := { s.batch with stage := none },
    notices := (publish b.staged s.table.records).2.foldl (fun q t => offerTo q .tableTrimmed t s.unit.uptime) s.notices }

theorem batchCloseBody_good {tag : Byte} {s : State} {b : Batch} (h : s.batch.stage = some b) (htag : b.tag = tag.toNat) :
    batchCloseBody tag s = (goodClose (published b s),
      done (num1 (publish b.staged s.table.records).1.length ++ num1 (publish b.staged s.table.records).2.length)) := by
  rw [batchCloseBody, h]
  refine (if_pos htag.symm).trans ?_
  rw [closeGood, offerAll_map .tableTrimmed fun t => t]
  rfl

/-- A REPLACE batch publishes exactly its records, each with the derived fields of the record it replaces (R27). -/
theorem publish_replace {set : List Departure} {rs : List Live} (hnd : (rs.map fun r => r.dep.trip).Nodup)
    (hset : (set.map fun d => d.trip).Nodup) :
    ((replaceAll set rs).map fun r => r.dep).Perm set ∧ (replaceAll set rs).Pairwise (fun p q => comesBefore p.dep q.dep = true)
      ∧ ∀ r ∈ replaceAll set rs, (∀ o ∈ rs, o.dep.trip = r.dep.trip → r = { o with dep := r.dep })
        ∧ ((∀ o ∈ rs, o.dep.trip ≠ r.dep.trip) → r = { dep := r.dep, form := .empty, shown := none, rise := 0 }) := by
  refine ⟨?_, replaceAll_ordered rs hset, fun r hr => ?_⟩
  · have hperm := (replaceAll_perm set rs).map fun r => r.dep
    simpa [Function.comp_def, carryOver_dep] using hperm
  · obtain ⟨d, -, rfl⟩ := List.mem_map.mp ((replaceAll_perm set rs).subset hr)
    rw [carryOver_dep]
    refine ⟨fun o ho htrip => ?_, fun hno => ?_⟩
    · rw [carryOver, ← htrip, findTrip_of_mem hnd ho]
    · rw [carryOver, findTrip_of_absent hno]
      rfl

/-- Settles O39, by the tag and the supervisor's state. -/
theorem batchClosed : Obligations.BatchClosed := by
  refine ⟨fun v tag s a b ha hs htag => ?_, fun v tag s a code ha hcode => ?_⟩
  · have hb : a.state.batch.stage = some b := (congrArg BatchStage.stage (admission_state_batch ha)).trans hs
    have hbody := batchCloseBody_good hb htag
    rw [← admission_state_batch ha, ← admission_state_table ha, ← admission_state_notices ha, ← admission_state_unit ha,
      ← admission_state_sup ha]
    refine ⟨(publish b.staged a.state.table.records).1, (publish b.staged a.state.table.records).2, published b a.state, rfl, ?_, ?_, ?_, ?_, ?_⟩
    · rintro set hset ⟨-, hnd, -⟩ hst
      have hdistinct : (set.map fun d => d.trip).Nodup := by
        rw [hset] at hst
        exact List.pairwise_map.mpr (hst.1.imp fun h => Nat.ne_of_lt h)
      rw [hset]
      exact ⟨rfl, publish_replace hnd hdistinct⟩
    · rintro cs hcs
      rw [hcs]
      exact ⟨rfl, rfl⟩
    · exact fun h => request_answered ha (hbody.trans (congrArg (·, _) (goodClose_disarmed (s := published b a.state) h)))
    · exact fun h => request_answered ha (hbody.trans (congrArg (·, _) (goodClose_armed (s := published b a.state) h)))
    · exact fun h => request_answered ha (hbody.trans (congrArg (·, _) (goodClose_expired (s := published b a.state) h)))
  · rw [← admission_state_batch ha] at hcode ⊢
    rw [← admission_state_sup ha, ← admission_state_notices ha, ← admission_state_unit ha]
    have hbody := batchCloseBody_bad hcode
    exact ⟨fun h => request_answered ha (hbody.trans (congrArg (·, _) (badClose_other (s := setStage none a.state) h))),
      fun h => request_answered ha (hbody.trans (congrArg (·, _) (badClose_armed (s := setStage none a.state) h)))⟩

end Sys2Proof.Machine

end

/-! Overlays pushed and withdrawn, panels placed, and the board's mode. -/

section

namespace Sys2Proof.Machine

open Sys2Proof

/-! ### PUSH_OVERLAY and WITHDRAW_OVERLAY (R90 to R92) -/

theorem byte_le_one {b : Byte} (h : b.toNat ≤ 1) : b = 0#8 ∨ b = 1#8 := by bv_omega

theorem readScope_good {b : Byte} (h : b.toNat ≤ 1) : readScope b = some (if b = 0#8 then .band else .full) := by
  rcases byte_le_one h with rfl | rfl <;> rfl

theorem readScope_bad {b : Byte} (h : 1 < b.toNat) : readScope b = none := by
  unfold readScope
  split
  case h_3 => rfl
  all_goals omega

theorem readPresentation_good {b : Byte} (h : b.toNat ≤ 1) : readPresentation b = some (if b = 0#8 then .still else .scroll) := by
  rcases byte_le_one h with rfl | rfl <;> rfl

theorem readPresentation_bad {b : Byte} (h : 1 < b.toNat) : readPresentation b = none := by
  unfold readPresentation
  split
  case h_3 => rfl
  all_goals omega

theorem readOverlay_bad {x : RawOverlay} (h : x.id = 0#8 ∨ 1 < x.scope.toNat ∨ x.phrase = 0#16 ∨ 1023 < x.phrase.toNat ∨ 1 < x.present.toNat) :
    readOverlay x = none := by
  unfold readOverlay
  split
  · next sc pr hsc hpr =>
    refine if_neg fun hgood => ?_
    obtain ⟨hid, hphrase⟩ := hgood
    simp only [phraseIdOk, decide_eq_true_eq] at hphrase
    rcases h with h | h | h | h | h
    · exact hid h
    · rw [readScope_bad h] at hsc; cases hsc
    · simp [h] at hphrase
    · omega
    · rw [readPresentation_bad h] at hpr; cases hpr
  · rfl

/-- The record of a push, with its speed clamped (R90). -/
theorem readOverlay_good {x : RawOverlay}
    (h : ¬ (x.id = 0#8 ∨ 1 < x.scope.toNat ∨ x.phrase = 0#16 ∨ 1023 < x.phrase.toNat ∨ 1 < x.present.toNat)) :
    readOverlay x = some { id := x.id.toNat, scope := if x.scope = 0#8 then .band else .full, phrase := x.phrase.toNat,
                           present := if x.present = 0#8 then .still else .scroll, speed := max 8 (min 64 x.speed.toNat),
                           remaining := x.remaining.toNat } := by
  obtain ⟨hid, hsc, hp0, hp, hpr⟩ : x.id ≠ 0#8 ∧ x.scope.toNat ≤ 1 ∧ x.phrase ≠ 0#16 ∧ x.phrase.toNat ≤ 1023 ∧ x.present.toNat ≤ 1 := by
    simpa only [not_or, Nat.not_lt] using h
  have hphrase : phraseIdOk x.phrase.toNat = true := decide_eq_true ⟨by bv_omega, hp⟩
  unfold readOverlay
  rw [readScope_good hsc, readPresentation_good hpr]
  exact if_pos ⟨hid, hphrase⟩

theorem withoutId_eq (id : Nat) (os : List Overlay) : withoutId id os = os.filter fun q => q.id ≠ id :=
  List.filter_congr fun q _ => by simp [bne, beq_eq_decide]

/-- Of at most four records three stay under a pushed one. -/
theorem stillUnder_eq_take {kept : List Overlay} (h : kept.length ≤ 4) : stillUnder kept = kept.take 3 := by
  unfold stillUnder maxOverlays
  split
  · exact (List.take_of_length_le (by omega)).symm
  · rw [List.dropLast_eq_take]
    congr 1
    omega

/-- The record that the push shifts out is the fourth below it. -/
theorem shiftedOut_eq {kept : List Overlay} (h : kept.length ≤ 4) : shiftedOut kept = kept[3]? := by
  unfold shiftedOut maxOverlays
  split
  · next hlt => exact (List.getElem?_eq_none (by omega)).symm
  · rw [List.getLast?_eq_getElem?]
    congr 1
    omega

theorem pushOverlayBody_good {x : RawOverlay} {o : Overlay} {s : State} (h : readOverlay x = some o) :
    pushOverlayBody x s = (overlayRender (offerDisplaced (shiftedOut (withoutId o.id s.overlays.records))
        (setOverlays { records := pushed o s.overlays.records, shownSince := 0 } s)),
      done (num1 (pushed o s.overlays.records).length ++ flag1 (s.overlays.records.any fun q => q.id == o.id)
        ++ num1 (orZero ((shiftedOut (withoutId o.id s.overlays.records)).map fun q => q.id)))) := by
  rw [pushOverlayBody, h]

theorem pushOverlayBody_bad {x : RawOverlay} {s : State} (h : readOverlay x = none) : pushOverlayBody x s = (s, .refused .badField) := by
  rw [pushOverlayBody, h]

theorem offerDisplaced_eq (out : Option Overlay) (s : State) : offerDisplaced out s = { s with
    notices := match out with | none => s.notices | some q => offerTo s.notices .overlayDisplaced q.id s.unit.uptime } := by
  cases out <;> rfl

/-- WITHDRAW_OVERLAY of a record of the stack. -/
theorem withdrawBody_held {id : Nat} {s : State} (h0 : id ≠ 0) (hmem : ∃ q ∈ s.overlays.records, q.id = id) :
    withdrawBody id s = (if isTop id s.overlays.records = true
        then overlayRender (setOverlays { records := withoutId id s.overlays.records, shownSince := 0 } s)
        else setOverlays { s.overlays with records := withoutId id s.overlays.records } s,
      done (num1 (withoutId id s.overlays.records).length ++ flag1 (isTop id s.overlays.records))) := by
  have hany : ¬ (s.overlays.records.any (fun o => o.id == id) = false) := by simpa using hmem
  rw [withdrawBody, if_neg h0, if_neg hany]
  cases isTop id s.overlays.records <;> rfl

theorem withoutId_split {id : Nat} {above below : List Overlay} {o : Overlay} (ho : o.id = id) (hno : ∀ q ∈ above ++ below, q.id ≠ id) :
    withoutId id (above ++ o :: below) = above ++ below := by
  rw [withoutId_eq, List.filter_append, List.filter_cons_of_neg (by simp [ho]), ← List.filter_append]
  exact List.filter_eq_self.mpr fun q hq => decide_eq_true (hno q hq)

/-- Settles O46, by the fields of the push, and by where the withdrawn record stands. -/
theorem overlaysPushedAndWithdrawn : Obligations.OverlaysPushedAndWithdrawn := by
  refine ⟨fun v x s a bad ha hbad => ⟨fun h => ?_, ?_⟩, fun v id s a ha => ⟨fun h => ?_, fun h0 hno => ?_, ?_, ?_⟩⟩
  · exact request_answered ha (pushOverlayBody_bad (readOverlay_bad (hbad.mp h)))
  · rintro o kept out u h hlen ho rfl rfl rfl
    rw [← admission_state_overlays ha] at hlen ⊢
    rw [← admission_state_notices ha, ← admission_state_unit ha, ← admission_state_board ha]
    have hread : readOverlay x = some o := ho ▸ readOverlay_good (mt hbad.mpr h)
    have hid : o.id = x.id.toNat := by rw [ho]
    have hkept : (a.state.overlays.records.filter fun q => q.id ≠ x.id.toNat).length ≤ 4 := (List.length_filter_le _ _).trans hlen
    have hany : (a.state.overlays.records.any fun q => q.id == x.id.toNat) = decide (∃ q ∈ a.state.overlays.records, q.id = x.id.toNat) := by
      rw [Bool.eq_iff_iff]
      simp
    refine request_answered ha ((pushOverlayBody_good hread).trans ?_)
    rw [pushed_eq, hid, withoutId_eq, stillUnder_eq_take hkept, shiftedOut_eq hkept, offerDisplaced_eq, hany, List.length_cons,
      List.length_take, Nat.add_comm]
    rfl
  · subst h
    exact request_answered ha rfl
  · rw [← admission_state_overlays ha] at hno
    refine request_answered ha ?_
    have hany : a.state.overlays.records.any (fun o => o.id == id.toNat) = false := by simpa using hno
    rw [withdrawBody, if_neg (by bv_omega), if_pos hany]
  · rintro o rest u h0 hrs ho hno rfl
    rw [← admission_state_overlays ha] at hrs
    rw [← admission_state_board ha]
    have hbody := withdrawBody_held (id := id.toNat) (s := a.state) (by bv_omega) ⟨o, by rw [hrs]; exact List.mem_cons_self, ho⟩
    have htop : isTop id.toNat a.state.overlays.records = true := by simp [isTop, hrs, ho]
    have hrest : withoutId id.toNat a.state.overlays.records = rest := by
      rw [hrs]
      exact withoutId_split (above := []) ho hno
    rw [htop, hrest] at hbody
    exact request_answered ha hbody
  · rintro top o above below h0 hrs ho hno
    rw [← admission_state_overlays ha] at hrs ⊢
    have hbody := withdrawBody_held (id := id.toNat) (s := a.state) (by bv_omega)
      ⟨o, by rw [hrs]; exact List.mem_append_right _ List.mem_cons_self, ho⟩
    have htop : isTop id.toNat a.state.overlays.records = false := by
      simpa [isTop, hrs] using hno top List.mem_cons_self
    have hrest : withoutId id.toNat a.state.overlays.records = top :: above ++ below := by
      rw [hrs]
      exact withoutId_split (above := top :: above) ho hno
    rw [htop, hrest] at hbody
    exact request_answered ha hbody

/-! ### SET_PANEL (R55, R56) -/

theorem posNum_eq_iff {n : Nat} {p : Pos} : Pos.ofNum? n = some p ↔ n = p.val + 1 := by
  unfold Pos.ofNum?
  constructor
  · intro h
    have := List.find?_some h
    exact (beq_iff_eq.mp this).symm
  · rintro rfl
    fin_cases p <;> rfl

theorem regionOk_iff (cw ch : Nat) (g : Placement) :
    regionOk cw ch g = true ↔ g.x % 16 = 0 ∧ g.y % 16 = 0 ∧ (g.width = 64 ∨ g.width = 128) ∧ (g.height = 16 ∨ g.height = 32)
      ∧ (g.scan = 4 ∨ g.scan = 8 ∨ g.scan = 16) ∧ g.scan ≤ g.height ∧ g.x + g.width ≤ cw ∧ g.y + g.height ≤ ch := decide_eq_true_iff

theorem overlap_eq_false_iff (a b : Placement) :
    overlap a b = false ↔ b.x + b.width ≤ a.x ∨ a.x + a.width ≤ b.x ∨ b.y + b.height ≤ a.y ∨ a.y + a.height ≤ b.y := by
  rw [overlap, decide_eq_false_iff_not]
  omega

/-- The checks of R55, as SET_PANEL makes them. -/
theorem panelFits_iff (s : State) (x : RawPanel) (p : Pos) :
    PanelFits s x p ↔ Pos.ofNum? x.position.toNat = some p ∧ p.num ≤ s.board.panelCount
      ∧ regionOk s.board.width s.board.height (readPlacement x) = true ∧ overlapsOther s p (readPlacement x) = false := by
  simp only [posNum_eq_iff, regionOk_iff, overlapsOther_eq_false_iff, overlap_eq_false_iff]
  exact ⟨fun ⟨h1, h2, h3, h4, h5, h6, h7, h8, h9, h10, h11⟩ => ⟨h1, h2, ⟨h3, h4, h5, h6, h7, h8, h9, h10⟩, h11⟩,
    fun ⟨h1, h2, ⟨h3, h4, h5, h6, h7, h8, h9, h10⟩, h11⟩ => ⟨h1, h2, h3, h4, h5, h6, h7, h8, h9, h10, h11⟩⟩

theorem notConfigured {m : BoardMode} (h : m = .unconfigured ∨ m = .enumerating) : isConfigured m = false := by
  rcases h with rfl | rfl <;> rfl

theorem configured {m : BoardMode} (hu : m ≠ .unconfigured) (he : m ≠ .enumerating) : isConfigured m = true := by
  simp [isConfigured, hu, he]

theorem setPanelBody_fits {s : State} {x : RawPanel} {p : Pos} (hm : isConfigured s.board.mode = true) (h : PanelFits s x p) :
    setPanelBody x s = (placePanel p (readPlacement x) s, done []) := by
  obtain ⟨hp, hnum, hregion, hapart⟩ := (panelFits_iff s x p).mp h
  rw [setPanelBody, if_neg (by simp [hm])]
  simp only [hp]
  exact if_pos ⟨hnum, hregion, hapart⟩

theorem setPanelBody_misfits {s : State} {x : RawPanel} (hm : isConfigured s.board.mode = true) (h : ∀ p, ¬ PanelFits s x p) :
    setPanelBody x s = (s, .refused .badField) := by
  rw [setPanelBody, if_neg (by simp [hm])]
  dsimp only
  split
  · rfl
  · next p hp => exact if_neg fun ⟨hnum, hregion, hapart⟩ => h p ((panelFits_iff s x p).mpr ⟨hp, hnum, hregion, hapart⟩)

/-- A placed position is marked in both sets (R56, R59). -/
theorem placePanel_eq (p : Pos) (g : Placement) (s : State) : ∀ u : State,
    u = { s with
      board := { s.board with places := s.board.places.set p (some g) },
      coder := { s.coder with dirty := s.coder.dirty.set p true, palDirty := s.coder.palDirty.set p true } } →
    placePanel p g s = settle (if s.board.mode = .test then requestRender u else u) := by
  rintro u rfl
  have hplaced : isPlaced { s with board := { s.board with places := s.board.places.set p (some g) } } p = true := by simp [isPlaced]
  rw [placePanel, markBoth, if_pos hplaced]

/-- Settles O43, by the mode and the checks of R55. -/
theorem panelPlaced : Obligations.PanelPlaced := by
  intro v x s a ha
  have hfits (p : Pos) : PanelFits s x p ↔ PanelFits a.state x p := by rw [PanelFits, PanelFits, admission_state_board ha]
  simp only [hfits]
  rw [← admission_state_board ha, ← admission_state_coder ha]
  refine ⟨fun hm => request_answered ha (if_pos (notConfigured hm)), fun hu he => ⟨fun hno => ?_, fun p u hp hu' => ?_⟩⟩
  · exact request_answered ha (setPanelBody_misfits (configured hu he) hno)
  · exact request_answered ha ((setPanelBody_fits (configured hu he) hp).trans (congrArg (·, _) (placePanel_eq p _ _ u hu')))

/-! ### SET_MODE (R57 to R60) -/

theorem per8_ext {α : Type} {x y : Per8 α} (h : ∀ p, x.get p = y.get p) : x = y := by
  cases x
  cases y
  congr
  exacts [h 0, h 1, h 2, h 3, h 4, h 5, h 6, h 7]

/-- The mode entered, with the palettes that entering or leaving BLANK marks. -/
theorem withMode_eq_marks {m : BoardMode} {s : State} {marks : PosSet}
    (h : ∀ p, marks.get p = (s.coder.palDirty.get p || decide (s.board.mode = .blank ∨ m = .blank) && (s.board.places.get p).isSome)) :
    withMode m s = { s with coder := { s.coder with palDirty := marks }, board := { s.board with mode := m } } := by
  unfold withMode blankMarks
  split
  · next hb =>
    have hmarks : marks = Per8.tabulate fun p => s.coder.palDirty.get p || isPlaced s p :=
      per8_ext fun p => by rw [h p, get_tabulate, decide_eq_true hb, Bool.true_and, isPlaced]
    rw [hmarks]
    rfl
  · next hb =>
    have hmarks : marks = s.coder.palDirty := per8_ext fun p => by rw [h p, decide_eq_false hb, Bool.false_and, Bool.or_false]
    rw [hmarks]

/-- What choosing a page from index 0 leaves. -/
theorem choosePage_zero {s : State} {d : Nat} (hd : ∀ i p, choice s 0 = some i → pageAt s.board.pages i = some p → d = p.dwell)
    (hd0 : choice s 0 = none → d = 0) :
    choosePage 0 s = { s with board := { s.board with
      current := choice s 0, dwell := d, lines := none, kept := if choice s 0 = s.board.current then s.board.lines.getD s.board.kept else [],
      rendered := s.board.rendered && decide (choice s 0 = s.board.current) } } := by
  have hdwell : (((choice s 0).bind (pageAt s.board.pages)).map fun p => p.dwell).getD 0 = d := by
    cases hc : choice s 0 with
    | none => exact (hd0 hc).symm
    | some i =>
      obtain ⟨p, hp⟩ := choice_defined hc
      simp [hp, hd i p hc hp]
  rw [choosePage, hdwell]
  rfl

theorem readMode_bad {b : Byte} (h : b.toNat < 2 ∨ 5 < b.toNat) : readMode b = none := by
  unfold readMode
  split
  case h_5 => rfl
  all_goals omega

theorem readMode_byte {m : BoardMode} (hm : isConfigured m = true) : readMode (boardModeByte m) = some m := by
  cases m with
  | unconfigured | enumerating => cases hm
  | _ => rfl

theorem setModeBody_same {s : State} {b : Byte} (hm : isConfigured s.board.mode = true) (h : readMode b = some s.board.mode) :
    setModeBody b s = (if s.board.mode = .run then choosePage 0 s else s, done []) := by
  rw [setModeBody, if_neg (by simp [hm]), h]
  exact if_pos rfl

theorem setModeBody_other {s : State} {b : Byte} {m : BoardMode} (hm : isConfigured s.board.mode = true) (h : readMode b = some m)
    (hne : m ≠ s.board.mode) : setModeBody b s = (settle (enterMode m s), done []) := by
  rw [setModeBody, if_neg (by simp [hm]), h]
  exact if_neg hne

/-- A page choice does not read the mode or the marks. -/
theorem choice_setMode (s : State) (c : Coder) (m : BoardMode) (start : Fin 4) :
    choice { s with coder := c, board := { s.board with mode := m } } start = choice s start := rfl

/-- Settles O44, by the mode in force and the mode named. -/
theorem modeSet : Obligations.ModeSet := by
  intro v b s a ha
  have hchoice : choice s 0 = choice a.state 0 := by
    rw [(admission_frame ha).1]
    rfl
  simp only [hchoice]
  rw [← admission_state_board ha, ← admission_state_coder ha]
  refine ⟨fun hm => request_answered ha (if_pos (notConfigured hm)), fun hu he => ?_⟩
  have hm := configured hu he
  refine ⟨fun hbad => ?_, fun hb h3 => ?_, ?_⟩
  · refine request_answered ha ?_
    rw [setModeBody, if_neg (by simp [hm]), readMode_bad hbad]
  · have hrun : a.state.board.mode ≠ .run := fun h => h3 (by rw [hb, h]; rfl)
    exact request_answered ha ((setModeBody_same hm (hb ▸ readMode_byte hm)).trans (congrArg (·, _) (if_neg hrun)))
  · rintro d old seen hd hd0 rfl rfl
    refine ⟨fun hb hrun => ?_, ?_⟩
    · have hread : readMode b = some a.state.board.mode := by rw [hb, hrun]; rfl
      exact request_answered ha ((setModeBody_same hm hread).trans (congrArg (·, _) ((if_pos hrun).trans (choosePage_zero hd hd0))))
    · rintro c marks hmarks rfl hne
      have henter (m : BoardMode) (hconf : isConfigured m = true) (hb : b = boardModeByte m) :
          exec (.setMode v b) s = answered v (.setMode v b) a (done []) (settle (enterMode m a.state))
            ∧ withMode m a.state = { a.state with
              coder := { a.state.coder with palDirty := marks }, board := { a.state.board with mode := m } } := by
        have hblank : b = 2#8 ↔ m = .blank := by rw [hb]; cases m <;> decide
        refine ⟨request_answered ha (setModeBody_other hm (hb ▸ readMode_byte hconf) fun h => hne (h ▸ hb)), withMode_eq_marks fun p => ?_⟩
        simpa only [hblank] using hmarks p
      refine ⟨fun hb => ?_, fun hb => ?_, fun hb => ?_, fun hb => ?_⟩
      · obtain ⟨hexec, hwith⟩ := henter .run rfl hb
        rw [hexec, enterMode_run, hwith]
        exact congrArg (fun u => answered v (.setMode v b) a (done []) (settle u)) (choosePage_zero (d := d) hd hd0)
      · obtain ⟨hexec, hwith⟩ := henter .hold rfl hb
        rw [hexec, enterMode_hold, hwith]
      · obtain ⟨hexec, hwith⟩ := henter .blank rfl hb
        rw [hexec, enterMode_blank, hwith]
        rfl
      · obtain ⟨hexec, hwith⟩ := henter .test rfl hb
        rw [hexec, enterMode_test, hwith]
        rfl

end Sys2Proof.Machine

end

/-! Answers on the panel chain: enumeration, the packets of a frame, and probes. -/

section

namespace Sys2Proof.Machine

open Sys2Proof

/-! ### Packets of one-byte bodies (R179) -/

theorem be16_eq_iff (a b : Byte) (w : BitVec 16) : be16 a b = w ↔ [a, b] = bytes16 w := by
  constructor
  · rintro rfl
    have hhigh : (a ++ b).extractLsb' 8 8 = a := BitVec.extractLsb'_append_eq_left
    have hlow : (a ++ b).extractLsb' 0 8 = b := BitVec.extractLsb'_append_eq_right
    rw [be16, bytes16, hhigh, hlow]
  · intro h
    obtain ⟨rfl, rfl⟩ : a = w.extractLsb' 8 8 ∧ b = w.extractLsb' 0 8 := by simpa [bytes16] using h
    exact be16_extract w

theorem bytes16_one : bytes16 1#16 = [0#8, 1#8] := by decide

/-- The bytes are a packet of this kind with a one-byte body. -/
theorem singleBody_iff (kind b : Byte) (raw : List Byte) :
    singleBody kind raw = some b ↔ raw = [kind, 0#8, 1#8, b] ++ bytes16 (crc16 [kind, 0#8, 1#8, b]) := by
  have hone (l1 l0 : Byte) : be16 l1 l0 = 1#16 ↔ l1 = 0#8 ∧ l0 = 1#8 := by simp [be16_eq_iff, bytes16_one]
  unfold singleBody
  split
  · next k l1 l0 c c1 c0 =>
    simp only [hone, be16_eq_iff]
    constructor
    · intro h
      split at h
      · next hgood =>
        obtain ⟨rfl, ⟨rfl, rfl⟩, hcrc⟩ := hgood
        cases h
        rw [← hcrc]
        rfl
      · cases h
    · intro h
      obtain ⟨rfl, rfl, rfl, rfl, hcrc⟩ : k = kind ∧ l1 = 0#8 ∧ l0 = 1#8 ∧ c = b ∧ [c1, c0] = bytes16 (crc16 [kind, 0#8, 1#8, b]) := by
        simpa using h
      exact if_pos ⟨rfl, ⟨rfl, rfl⟩, hcrc⟩
  · next hno =>
    exact ⟨fun h => (by cases h), fun h => absurd h (hno _ _ _ _ _ _)⟩

/-- The bytes of a packet whose body is one byte. -/
theorem packetBytes_single {k : Packet} {b : Byte} (h : packetBody k = [b]) :
    packetBytes k = [packetKind k, 0#8, 1#8, b] ++ bytes16 (crc16 [packetKind k, 0#8, 1#8, b]) := by
  have hlen : bytes16 (BitVec.ofNat 16 (packetBody k).length) = [0#8, 1#8] := by rw [h]; exact bytes16_one
  rw [packetBytes, hlen, h]
  rfl

theorem enumerateBody_iff (m : Byte) (raw : List Byte) : singleBody 0x01#8 raw = some m ↔ raw = packetBytes (.enumerate m) := by
  rw [singleBody_iff, packetBytes_single (b := m) rfl]
  rfl

theorem isAckFrom_iff (p : Pos) (raw : List Byte) : isAckFrom p raw = true ↔ raw = packetBytes (.ack p) := by
  rw [isAckFrom, beq_iff_eq, singleBody_iff, packetBytes_single (b := posByte p) rfl]
  rfl

theorem isNakFrom_iff (p : Pos) (raw : List Byte) : isNakFrom p raw = true ↔ raw = packetBytes (.nak p) := by
  rw [isNakFrom, beq_iff_eq, singleBody_iff, packetBytes_single (b := posByte p) rfl]
  rfl

/-! ### SET_BOARD and enumeration (R53, R54, R129 to R133) -/

theorem boardFieldsOk_iff (w h n : Nat) :
    boardFieldsOk w h n = true ↔ 64 ≤ w ∧ w ≤ 512 ∧ w % 64 = 0 ∧ 16 ≤ h ∧ h ≤ 128 ∧ h % 16 = 0 ∧ 1 ≤ n ∧ n ≤ 8 := decide_eq_true_iff

theorem setBoardBody_wrongMode {w h n : Nat} {s : State} (hu : s.board.mode ≠ .unconfigured) (hb : s.board.mode ≠ .blank) :
    setBoardBody w h n s = (s, .refused .wrongMode) := by
  unfold setBoardBody
  split
  · next hm => exact absurd hm hu
  · next hm => exact absurd hm hb
  · rfl

theorem setBoardBody_busy {w h n : Nat} {s : State} (hb : s.board.mode = .blank) (hc : s.coder.state ≠ .idle) :
    setBoardBody w h n s = (s, .refused .busy) := by
  unfold setBoardBody
  rw [hb]
  exact if_pos ⟨rfl, hc⟩

/-- SET_BOARD in a mode and a frame state that allow it (R53). -/
theorem setBoardBody_open {w h n : Nat} {s : State} (hm : s.board.mode = .unconfigured ∨ (s.board.mode = .blank ∧ s.coder.state = .idle)) :
    setBoardBody w h n s = if boardFieldsOk w h n = false then (s, .refused .badField)
      else (recompute (chainDeclare (clearMarks { s with board := declareBoard w h n s.board })), done []) := by
  unfold setBoardBody
  rcases hm with hm | ⟨hm, hc⟩
  · rw [hm]
    exact if_neg (by simp)
  · rw [hm]
    exact if_neg (by simp [hc])

/-- What a declaration does to the chain (R129, R130). -/
theorem chainDeclare_eq {s : State} {w : ChainWork} {o : Option Packet}
    (h : (s.chain.work = .idle ∧ w = .enumerating ∧ o = some (.enumerate 1#8))
      ∨ ∃ p rest ended, s.chain.work = .probing p rest ended ∧ w = .probing p [] true ∧ o = s.chain.out) :
    chainDeclare s = { s with chain := { s.chain with recs := Per8.all PanelRecord.init, count := 0, work := w, out := o } } := by
  unfold chainDeclare
  rcases h with ⟨hw, rfl, rfl⟩ | ⟨p, rest, ended, hw, rfl, rfl⟩ <;> rw [hw] <;> rfl

theorem completeEnumeration_eq (c : Nat) (s : State) : completeEnumeration c s = { s with
    board := { s.board with mode := .blank },
    chain := { s.chain with
      count := c, found := min c s.board.panelCount, work := .idle,
      recs := Per8.tabulate fun p => { state := if p.val < min c s.board.panelCount then .active else .absent, fails := 0, naks := 0, timeouts := 0 } },
    notices := if c ≤ s.board.panelCount then offerTo s.notices .panelBoardReady c s.unit.uptime
               else offerTo s.notices .panelExtra c s.unit.uptime } := by
  have hrecs : (Per8.tabulate fun p => if p.num ≤ min c s.board.panelCount then { PanelRecord.init with state := .active } else PanelRecord.init)
      = Per8.tabulate fun p => { state := if p.val < min c s.board.panelCount then .active else .absent, fails := 0, naks := 0, timeouts := 0 } := by
    congr 1
    funext p
    have hnum : p.num ≤ min c s.board.panelCount ↔ p.val < min c s.board.panelCount := Iff.rfl
    by_cases h : p.val < min c s.board.panelCount <;> simp [hnum, h, PanelRecord.init]
  unfold completeEnumeration
  dsimp only
  rw [hrecs]
  split
  · next h => simp [offer, min_eq_left h]
  · rfl

theorem enumerationComplete_eq {s : State} (h : s.chain.work = .enumerating) {m : Byte} (hm : m ≠ 0#8) :
    exec (.enumerationComplete (packetBytes (.enumerate m))) s = .next (settle (completeEnumeration (m.toNat - 1) s)) := by
  change execEnumerationComplete _ s = _
  rw [execEnumerationComplete, if_pos h, (enumerateBody_iff m _).mpr rfl]
  exact congrArg Host.Outcome.next (if_neg hm)

theorem enumerationTimeout_eq {s : State} (h : s.chain.work = .enumerating) :
    exec .enumerationTimeout s = .next (settle (completeEnumeration 0 s)) := congrArg Host.Outcome.next (if_pos h)

/-- Bytes that are no ENUMERATE packet carrying 1 to 255 are disregarded (R132). -/
theorem enumerationComplete_dropped {s : State} {raw : List Byte} (hraw : ∀ k : Byte, k ≠ 0#8 → raw ≠ packetBytes (.enumerate k)) :
    exec (.enumerationComplete raw) s = .next s := by
  change execEnumerationComplete _ s = _
  unfold execEnumerationComplete
  congr 1
  split
  · split
    · next m hm => exact if_pos (by_contra fun h0 => hraw m h0 ((enumerateBody_iff m raw).mp hm))
    · rfl
  · rfl

/-- Settles O42, by the mode and the fields of SET_BOARD, and by what the return pair carries. -/
theorem boardDeclaredAndEnumerated : Obligations.BoardDeclaredAndEnumerated := by
  refine ⟨fun v width height count s a fits ha hfits => ?_, fun s hm hw => ?_, fun s m raw hw => ⟨fun c cmd u hcmd hu => ?_, fun hraw => ?_⟩⟩
  · rw [← boardFieldsOk_iff] at hfits
    rw [← admission_state_board ha, ← admission_state_coder ha, ← admission_state_chain ha]
    refine ⟨fun hu hb => request_answered ha (setBoardBody_wrongMode hu hb), fun hb hc => request_answered ha (setBoardBody_busy hb hc),
      fun hm hno => request_answered ha ((setBoardBody_open hm).trans (if_pos (by simpa using mt hfits.mpr hno))), fun w o hm hok hwork => ?_⟩
    have hdeclared := chainDeclare_eq
      (s := clearMarks { a.state with board := declareBoard width.toNat height.toNat count.toNat a.state.board }) hwork
    refine request_answered ha ((setBoardBody_open hm).trans ((if_neg (by simp [hfits.mp hok])).trans ?_))
    rw [hdeclared]
    rfl
  · exact congrArg Host.Outcome.next (if_pos ⟨by simp [enumWaiting, hm, hw], hw⟩)
  · rw [hu, ← completeEnumeration_eq]
    rcases hcmd with ⟨hm, rfl, rfl⟩ | ⟨rfl, rfl⟩
    · exact enumerationComplete_eq hw hm
    · exact enumerationTimeout_eq hw
  · exact enumerationComplete_dropped hraw

end Sys2Proof.Machine

end

/-! The answers to the packets of a frame and to probes (R134 to R137, R140). -/

section

namespace Sys2Proof.Machine

open Sys2Proof

theorem set_set {α : Type} (f : Per8 α) (p : Pos) (a b : α) : (f.set p a).set p b = f.set p b := by
  refine per8_ext fun q => ?_
  by_cases h : q = p
  · rw [h, get_set_same, get_set_same]
  · rw [get_set_other _ h, get_set_other _ h, get_set_other _ h]

theorem markBoth_eq (p : Pos) (s : State) : markBoth p s = { s with
    coder := if (s.board.places.get p).isSome = true then
        { s.coder with dirty := s.coder.dirty.set p true, palDirty := s.coder.palDirty.set p true }
      else s.coder } := by
  unfold markBoth isPlaced
  split <;> rfl

section

variable {s : State} {o : Outstanding} {rest : List Item} {g : PosSet} {p : Pos} {probes : List Pos} {ended : Bool}

theorem answerAck_frame (h : s.chain.work = .delivering (some o) rest g) (raw : List Byte) :
    exec (.answerAck raw) s = .next (if isAckFrom (itemPos o.item) raw = true then settle (frameAck o rest g s) else s) := by
  change execAnswerAck raw s = _
  rw [execAnswerAck, h]

theorem answerNak_frame (h : s.chain.work = .delivering (some o) rest g) (raw : List Byte) :
    exec (.answerNak raw) s = .next (if isNakFrom (itemPos o.item) raw = true
      then settle (frameFail o rest g (countNak (itemPos o.item) s)) else s) := by
  change execAnswerNak raw s = _
  rw [execAnswerNak, h]

theorem answerTimeout_frame (h : s.chain.work = .delivering (some o) rest g) :
    exec .answerTimeout s = .next (settle (frameFail o rest g (countTimeout (itemPos o.item) s))) := by
  change execAnswerTimeout s = _
  rw [execAnswerTimeout, h]

theorem answerAck_probe (h : s.chain.work = .probing p probes ended) (raw : List Byte) :
    exec (.answerAck raw) s = .next (if isAckFrom p raw = true ∧ ended = false then settle (probeNext probes (recover p s)) else s) := by
  change execAnswerAck raw s = _
  rw [execAnswerAck, h]

theorem answerNak_probe (h : s.chain.work = .probing p probes ended) (raw : List Byte) :
    exec (.answerNak raw) s = .next (if isNakFrom p raw = true ∧ ended = false then settle (probeNext probes (countNak p s)) else s) := by
  change execAnswerNak raw s = _
  rw [execAnswerNak, h]

theorem answerTimeout_probe (h : s.chain.work = .probing p probes ended) :
    exec .answerTimeout s = .next (if ended = true then setWork .idle s else settle (probeNext probes (countTimeout p s))) := by
  change execAnswerTimeout s = _
  rw [execAnswerTimeout, h]

/-- A failed answer counted, with tries left: the packet is sent again (R135). -/
theorem frameFail_again (k : PanelRecord) (h : o.sent ≤ s.chain.retryLimit) :
    frameFail o rest g (setRec (itemPos o.item) k s) = { s with chain := { s.chain with
      recs := s.chain.recs.set (itemPos o.item) k, work := .delivering (some { o with sent := o.sent + 1 }) rest g,
      out := some (itemPacket s o.item) } } :=
  if_pos (show o.sent < 1 + s.chain.retryLimit by omega)

/-- A panel given up after a failed answer counted (R136). -/
theorem giveUp_counted (p : Pos) (k : PanelRecord) (s : State) : giveUp p (setRec p k s) = { s with
    chain := { s.chain with
      recs := s.chain.recs.set p { k with
        fails := min 15 (k.fails + 1), state := if s.chain.faultAfter ≤ min 15 (k.fails + 1) then .faulted else .failing } },
    coder := if (s.board.places.get p).isSome = true then
        { s.coder with dirty := s.coder.dirty.set p true, palDirty := s.coder.palDirty.set p true }
      else s.coder,
    notices := if s.chain.faultAfter ≤ min 15 (k.fails + 1) then offerTo s.notices .panelFaulted (p.val + 1) s.unit.uptime else s.notices } := by
  unfold giveUp
  simp only [setRec, get_set_same, set_set, markBoth_eq]
  split <;> rfl

theorem frameFail_givesUp (k : PanelRecord) (h : s.chain.retryLimit < o.sent) :
    frameFail o rest g (setRec (itemPos o.item) k s) = sendNext (rest.filter fun x => itemPos x ≠ itemPos o.item) (g.set (itemPos o.item) true)
      (giveUp (itemPos o.item) (setRec (itemPos o.item) k s)) := by
  have hkeep : (rest.filter fun x => itemPos x != itemPos o.item) = rest.filter fun x => itemPos x ≠ itemPos o.item :=
    List.filter_congr fun x _ => by simp [bne, beq_eq_decide]
  rw [← hkeep]
  exact if_neg (show ¬ o.sent < 1 + s.chain.retryLimit by omega)

end

theorem frameAck_more {o : Outstanding} {rest : List Item} {g : PosSet} {s : State} (h : ∃ x ∈ rest, itemPos x = itemPos o.item) :
    frameAck o rest g s = sendNext rest g s := by
  rw [frameAck, if_pos (by simpa using h)]

theorem frameAck_last {o : Outstanding} {rest : List Item} {g : PosSet} {s : State} (h : ∀ x ∈ rest, itemPos x ≠ itemPos o.item) :
    frameAck o rest g s = sendNext rest g (panelGood (itemPos o.item) s) := by
  rw [frameAck, if_neg (by simpa using h)]

/-- Settles O53, by the answer and the tries left. -/
theorem frameAnswers : Obligations.FrameAnswers := by
  rintro s it n rest givenUp p r raw hw rfl rfl
  have hack := answerAck_frame hw
  have hnak := answerNak_frame hw
  refine ⟨fun hraw => ?_, fun hraw => ?_, fun hmore => ?_, fun hlast => ?_, fun c k hck => ?_⟩
  · rw [hack, if_neg (mt (isAckFrom_iff _ _).mp hraw)]
  · rw [hnak, if_neg (mt (isNakFrom_iff _ _).mp hraw)]
  · rw [hack, if_pos ((isAckFrom_iff _ _).mpr rfl), frameAck_more hmore]
  · rw [hack, if_pos ((isAckFrom_iff _ _).mpr rfl), frameAck_last hlast]
    rfl
  · have hexec : exec c s = .next (settle (frameFail { item := it, sent := n } rest givenUp (setRec (itemPos it) k s))) := by
      rcases hck with ⟨rfl, rfl⟩ | ⟨rfl, rfl⟩
      · exact (hnak _).trans (congrArg Host.Outcome.next (if_pos ((isNakFrom_iff _ _).mpr rfl)))
      · exact answerTimeout_frame hw
    have hfails : k.fails = (s.chain.recs.get (itemPos it)).fails := by
      rcases hck with ⟨-, rfl⟩ | ⟨-, rfl⟩ <;> rfl
    rw [hexec]
    refine ⟨fun hle => ?_, fun f u hlt hf hu => ?_⟩
    · exact congrArg (fun t => Host.Outcome.next (settle t)) (frameFail_again (o := { item := it, sent := n }) k hle)
    · rw [← hfails] at hf
      rw [hf, ← giveUp_counted] at hu
      rw [frameFail_givesUp (o := { item := it, sent := n }) k hlt, hu]

/-- The next PROBE of a round, or its end (R140). -/
theorem probeNext_eq {rest : List Pos} {s : State} {w : ChainWork} {o : Option Packet}
    (h : (rest = [] ∧ w = .idle ∧ o = s.chain.out) ∨ ∃ q qs, rest = q :: qs ∧ w = .probing q qs false ∧ o = some (.probe q)) :
    probeNext rest s = { s with chain := { s.chain with work := w, out := o } } := by
  rcases h with ⟨rfl, rfl, rfl⟩ | ⟨q, qs, rfl, rfl, rfl⟩ <;> rfl

theorem recover_eq (p : Pos) (s : State) : recover p s = { s with
    chain := { s.chain with recs := s.chain.recs.set p { s.chain.recs.get p with state := .active, fails := 0 } },
    coder := if (s.board.places.get p).isSome = true then
        { s.coder with dirty := s.coder.dirty.set p true, palDirty := s.coder.palDirty.set p true }
      else s.coder,
    notices := offerTo s.notices .panelRecovered (p.val + 1) s.unit.uptime } := by
  rw [recover, markBoth_eq]
  rfl

/-- Settles O54, by the answer and whether the round has been ended. -/
theorem probeAnswers : Obligations.ProbeAnswers := by
  rintro s p rest r raw ended rfl
  refine ⟨fun hw => ?_, fun hw => ⟨fun h => ?_, fun h => ?_⟩, fun w o hw hnext => ⟨?_, ?_, ?_⟩⟩
  · rw [answerTimeout_probe hw]
    rfl
  · rw [answerAck_probe hw, if_neg]
    rintro ⟨hack, hrun⟩
    exact h.elim (fun he => by simp [he] at hrun) fun hraw => hraw ((isAckFrom_iff _ _).mp hack)
  · rw [answerNak_probe hw, if_neg]
    rintro ⟨hnak, hrun⟩
    exact h.elim (fun he => by simp [he] at hrun) fun hraw => hraw ((isNakFrom_iff _ _).mp hnak)
  · rw [answerAck_probe hw, if_pos ⟨(isAckFrom_iff _ _).mpr rfl, rfl⟩, recover_eq]
    exact congrArg (fun t => Host.Outcome.next (settle t)) (probeNext_eq hnext)
  · rw [answerNak_probe hw, if_pos ⟨(isNakFrom_iff _ _).mpr rfl, rfl⟩]
    exact congrArg (fun t => Host.Outcome.next (settle t)) (probeNext_eq (s := countNak p s) hnext)
  · rw [answerTimeout_probe hw, if_neg (by decide)]
    exact congrArg (fun t => Host.Outcome.next (settle t)) (probeNext_eq (s := countTimeout p s) hnext)

end Sys2Proof.Machine

end

/-! Frames: when one starts, its coding, and the order of its packets (R116 to R123, R127, R128, R136, R138). -/

section

namespace Sys2Proof.Machine

open Sys2Proof

/-! ### The start of a frame (R116 to R119, R127, R128) -/

theorem frameTakes_iff (s : State) (p : Pos) :
    frameTakes s p = true ↔ (s.board.places.get p).isSome = true
      ∧ ((s.chain.recs.get p).state = .active ∨ (s.chain.recs.get p).state = .failing)
      ∧ (s.coder.dirty.get p = true ∨ s.coder.palDirty.get p = true) := by
  simp only [frameTakes, panelEligible, isPlaced, Bool.and_eq_true, Bool.or_eq_true, beq_iff_eq, and_assoc]

/-- The drive levels of one table entry by entry (R127, R128). -/
theorem driveTable_eq (m : BoardMode) (palette : List RGB) (b : Nat) (g : Placement) :
    driveTable (m == .blank) palette b g = palette.map fun c => if m = .blank then ⟨0#8, 0#8, 0#8⟩ else
      ⟨BitVec.ofNat 8 (driveLevel c.r.toNat b g.gainR), BitVec.ofNat 8 (driveLevel c.g.toNat b g.gainG),
        BitVec.ofNat 8 (driveLevel c.b.toNat b g.gainB)⟩ := by
  by_cases h : m = .blank
  · simp [driveTable, h]
  · simp [driveTable, h, driveEntry]

/-- Lists of values that a partial function gives at their keys are what it gives along the keys. -/
theorem filterMap_keys {α β : Type} {key : β → α} {f : α → Option β} {xs : List β} (h : ∀ x ∈ xs, f (key x) = some x) :
    (xs.map key).filterMap f = xs := by
  rw [List.filterMap_map]
  induction xs with
  | nil => rfl
  | cons x xs ih =>
    obtain ⟨hx, hxs⟩ := List.forall_mem_cons.mp h
    rw [List.filterMap_cons_some (by exact hx), ih hxs]

theorem filterMap_frameEntry (s : State) : Pos.all.filterMap (frameEntry s) = (Pos.all.filter (frameTakes s)).filterMap (frameEntry s) := by
  rw [List.filterMap_filter]
  congr 1
  funext p
  split
  · rfl
  · next h => exact Option.eq_none_iff_forall_ne_some.mpr fun e he => h (frameEntry_pos he).2

theorem frameEntry_of_fields {s : State} {e : Entry} (htakes : frameTakes s e.pos = true) (hplace : s.board.places.get e.pos = some e.geom)
    (hstriped : e.striped = s.coder.dirty.get e.pos)
    (hdrive : e.drive = if s.coder.palDirty.get e.pos = true then
      some (driveTable (s.board.mode == .blank) s.coder.palette s.light.applied e.geom) else none) : frameEntry s e.pos = some e := by
  unfold frameEntry
  rw [hplace]
  simp only [htakes, if_true, ← hdrive, ← hstriped]

theorem settle_starts {s : State} (hidle : s.coder.state = .idle) (hany : ∃ p, frameTakes s p = true) : settle s = startFrame s := by
  refine if_pos ⟨hidle, ?_⟩
  obtain ⟨p, hp⟩ := hany
  exact List.any_eq_true.mpr ⟨p, mem_posAll p, hp⟩

theorem settle_rests {s : State} (h : s.coder.state ≠ .idle ∨ ∀ p, frameTakes s p = false) : settle s = s := by
  refine if_neg fun ⟨hidle, hany⟩ => ?_
  obtain ⟨p, -, hp⟩ := List.any_eq_true.mp hany
  exact h.elim (fun h => h hidle) fun h => by simp [h p] at hp

/-- Settles O51, by the entries that the frame takes. -/
theorem frameStarts : Obligations.FrameStarts := by
  intro s takes htakes
  have heq : takes = frameTakes s := funext fun p => Bool.eq_iff_iff.mpr ((htakes p).trans (frameTakes_iff s p).symm)
  subst heq
  refine ⟨settle_rests, fun es u hidle hany hpos hes hu => ?_⟩
  have hentries : Pos.all.filterMap (frameEntry s) = es := by
    rw [filterMap_frameEntry, ← hpos]
    refine filterMap_keys fun e he => ?_
    obtain ⟨hplace, hstriped, hdrive⟩ := hes e he
    have hmem : e.pos ∈ Pos.all.filter (frameTakes s) := hpos ▸ List.mem_map_of_mem he
    refine frameEntry_of_fields (List.mem_filter.mp hmem).2 hplace hstriped ?_
    rw [hdrive, driveTable_eq]
  have hopen : openFrame s = u := by rw [hu, openFrame, hentries]
  have hpalette : paletteOnly u = es.all fun e => !e.striped := by rw [hu, paletteOnly]
  have hstart : settle s = if paletteOnly u = true then completeCoding u else u := by
    rw [settle_starts hidle hany, startFrame, hopen]
  rw [hstart, hpalette]
  refine ⟨fun ⟨e, he, hstriped⟩ => if_neg fun hall => ?_, fun hno => ?_⟩
  · simpa [hstriped] using List.all_eq_true.mp hall e he
  · rw [if_pos (List.all_eq_true.mpr fun e he => by simp [hno e he])]
    exact congrArg Host.Outcome.next (if_pos (by rw [hu]))

/-! ### Coding and delivery (R119, R120, R122, R123, R130, R136, R138) -/

theorem codingComplete_eq {s : State} {r : FrameRecord} (hs : s.coder.state = .coding) (hr : s.coder.record = some r) :
    exec .codingComplete s = .next (deliverIfFree (renderPending (storeStripes r s))) := by
  rw [← completeCoding_some hr]
  exact congrArg Host.Outcome.next (if_pos hs)

theorem requestRender_performs {s : State} (h : s.coder.state ≠ .coding) : requestRender s = performRender s := if_neg h

/-- A pending render changes nothing of a frame in delivery but the marks. -/
theorem renderPending_frame (s : State) : unmarked (renderPending s).coder = unmarked s.coder ∧ (renderPending s).chain = s.chain := by
  unfold renderPending
  split
  · exact ⟨unmarked_performRender s, by simp⟩
  · exact ⟨rfl, rfl⟩

theorem deliveryStart_eq {s : State} {r : FrameRecord} (hs : s.coder.state = .delivering) (hr : s.coder.record = some r)
    (hw : s.chain.work = .idle) (hd : s.chain.roundDue = false) :
    exec .deliveryStart s = .next (sendNext (frameItems r) (Per8.all false) s) := by
  refine congrArg Host.Outcome.next ((if_pos ⟨hs, hw, hd⟩).trans ?_)
  rw [beginDelivery, hr]

theorem showSet_eq {s : State} {r : FrameRecord} (hr : s.coder.record = some r) (g : PosSet) :
    showSet s g = Per8.tabulate fun p => decide (∃ e ∈ r.entries, e.pos = p) && !g.get p := by
  have hany (p : Pos) : (r.entries.any fun e => e.pos == p) = decide (∃ e ∈ r.entries, e.pos = p) := by
    rw [Bool.eq_iff_iff]
    simp
  unfold showSet
  rw [hr]
  simp only [hany]

/-- Settles O52, packet by packet of the frame's life. -/
theorem frameDelivered : Obligations.FrameDelivered := by
  refine ⟨fun s u w r hs hr hu hw => ?_, fun s r items hs hr hw hd hitems => ?_, fun s r it rest g hr => ⟨rfl, ?_, ?_, ?_⟩, fun s rest g hw => ?_⟩
  · have hstored : storeStripes r s = u := by
      rw [hu]
      simp only [storeStripes, codeFrame, codeStripe, stripeRows, List.map_map]
      rfl
    have hrendered : renderPending (storeStripes r s) = w := by
      have hnot : u.coder.state ≠ .coding := by rw [hu]; simp
      rw [hstored, hw, renderPending, requestRender_performs hnot]
      rw [hu]
    have hcomplete := codingComplete_eq hs hr
    obtain ⟨hcoder, hchain⟩ := renderPending_frame (storeStripes r s)
    rw [hrendered] at hcomplete hcoder hchain
    have hstate : w.coder.state = .delivering := congrArg Coder.state hcoder
    have hrecord : w.coder.record = some r := (congrArg Coder.record hcoder).trans hr
    refine ⟨fun hidle hdue => ?_, fun hbusy => ?_⟩
    · have hidle' : w.chain.work = .idle := hchain ▸ hidle
      have hdue' : w.chain.roundDue = false := hchain ▸ hdue
      have hfree : deliverIfFree w = sendNext (frameItems r) (Per8.all false) w := by
        rw [deliverIfFree, if_pos ⟨hidle', hdue'⟩, beginDelivery, hrecord]
      rw [hcomplete, hfree]
      refine ⟨(deliveryStart_eq hstate hrecord hidle' hdue').symm, _, rfl, ?_, ?_⟩
      · simpa using hstate
      · rw [sendNext_work]
        simp
    · rw [hcomplete, deliverIfFree, if_neg]
      rw [hchain]
      exact fun h => hbusy.elim (fun hw => hw h.1) fun hd => by
        have hdue : s.chain.roundDue = false := h.2
        simp [hd] at hdue
  · rw [deliveryStart_eq hs hr hw hd, hitems]
    rfl
  · rw [sendNext, showSet_eq hr]
  · rintro p e d rfl hfind hdrive
    simp [itemPacket, hr, hfind, hdrive]
  · rintro p n x rfl hfind
    simp [itemPacket, hfind]
  · change execDeliveryEnd s = _
    rw [execDeliveryEnd, hw]
    rfl

end Sys2Proof.Machine

end

/-! Coded rows, and the panel that takes them (R122 to R125, R134, R138, R179). -/

section

namespace Sys2Proof.Machine

open Sys2Proof

/-! ### The units of a row (R124) -/

theorem rowUnitsFrom_pixels (cur : Pixel) (n : Nat) (ps : List Pixel) :
    (rowUnitsFrom cur n ps).flatMap (fun u => List.replicate u.2 u.1) = List.replicate n cur ++ ps := by
  induction ps generalizing cur n with
  | nil => simp [rowUnitsFrom]
  | cons p ps ih =>
    unfold rowUnitsFrom
    split
    · next h => rw [ih, h.1, List.replicate_succ', List.append_assoc, List.singleton_append]
    · rw [List.flatMap_cons, ih, List.replicate_one, List.singleton_append]

theorem rowUnitsFrom_lengths {cur : Pixel} {n : Nat} (h1 : 1 ≤ n) (h16 : n ≤ 16) (ps : List Pixel) :
    ∀ u ∈ rowUnitsFrom cur n ps, 1 ≤ u.2 ∧ u.2 ≤ 16 := by
  induction ps generalizing cur n with
  | nil => simpa [rowUnitsFrom] using ⟨h1, h16⟩
  | cons p ps ih =>
    unfold rowUnitsFrom
    split
    · next h => exact ih (by omega) h.2
    · exact List.forall_mem_cons.mpr ⟨⟨h1, h16⟩, ih (by decide) (by decide)⟩

theorem rowUnitsFrom_head (cur : Pixel) (n : Nat) (ps : List Pixel) : ∃ m us, rowUnitsFrom cur n ps = (cur, m) :: us := by
  induction ps generalizing n with
  | nil => exact ⟨n, [], rfl⟩
  | cons p ps ih =>
    unfold rowUnitsFrom
    split
    · exact ih (n + 1)
    · exact ⟨n, _, rfl⟩

/-- A piece is followed by another of its index only where it is full. -/
theorem rowUnitsFrom_chain {cur : Pixel} {n : Nat} (h16 : n ≤ 16) (ps : List Pixel) :
    (rowUnitsFrom cur n ps).IsChain fun u w => u.1 = w.1 → u.2 = 16 := by
  induction ps generalizing cur n with
  | nil => exact .singleton _
  | cons p ps ih =>
    unfold rowUnitsFrom
    split
    · next h => exact ih h.2
    · next h =>
      obtain ⟨m, us, hus⟩ := rowUnitsFrom_head p 1 ps
      have hchain := ih (cur := p) (n := 1) (by decide)
      rw [hus] at hchain ⊢
      refine .cons_cons (fun heq => ?_) hchain
      have hfull : ¬ n < 16 := fun hlt => h ⟨heq.symm, hlt⟩
      exact le_antisymm h16 (Nat.not_lt.mp hfull)

theorem unitsOf_rowUnits {row : List Pixel} (h : row ≠ []) : UnitsOf row (rowUnits row) := by
  cases row with
  | nil => exact absurd rfl h
  | cons p ps =>
    refine ⟨(rowUnitsFrom_pixels p 1 ps).symm, rowUnitsFrom_lengths (by decide) (by decide) ps, fun i u w hu hw heq => ?_⟩
    obtain ⟨hi, rfl⟩ := List.getElem?_eq_some_iff.mp hu
    obtain ⟨hi1, rfl⟩ := List.getElem?_eq_some_iff.mp hw
    exact List.isChain_iff_getElem.mp (rowUnitsFrom_chain (cur := p) (n := 1) (by decide) ps) i hi1 heq

/-! ### Coding and decoding a row (R125, R179) -/

theorem unitPixels_unitByte {u : Pixel × Nat} (h1 : 1 ≤ u.2) (h16 : u.2 ≤ 16) : unitPixels (unitByte u) = List.replicate u.2 u.1 := by
  have hhigh : (u.1 ++ BitVec.ofNat 4 (u.2 - 1)).extractLsb' 4 4 = u.1 := BitVec.extractLsb'_append_eq_left
  have hlow : (u.1 ++ BitVec.ofNat 4 (u.2 - 1)).extractLsb' 0 4 = BitVec.ofNat 4 (u.2 - 1) := BitVec.extractLsb'_append_eq_right
  have hlen : (BitVec.ofNat 4 (u.2 - 1)).toNat + 1 = u.2 := by
    rw [BitVec.toNat_ofNat]
    omega
  rw [unitPixels, unitByte, hhigh, hlow, hlen]

theorem bytePixels_append (a b : Pixel) : bytePixels (a ++ b) = [a, b] := by
  have hhigh : (a ++ b).extractLsb' 4 4 = a := BitVec.extractLsb'_append_eq_left
  have hlow : (a ++ b).extractLsb' 0 4 = b := BitVec.extractLsb'_append_eq_right
  rw [bytePixels, hhigh, hlow]

/-- A row packed two pixels to a byte is read back, and has half as many bytes. -/
theorem packPixels_spec (k : Nat) (row : List Pixel) (h : row.length = 2 * k) :
    packPixels row = (List.range k).map (fun i => row.getD (2 * i) 0#4 ++ row.getD (2 * i + 1) 0#4)
      ∧ (packPixels row).flatMap bytePixels = row := by
  induction k generalizing row with
  | zero =>
    obtain rfl := List.length_eq_zero_iff.mp h
    exact ⟨rfl, rfl⟩
  | succ k ih =>
    match row, h with
    | a :: b :: rest, h =>
      obtain ⟨hpack, hback⟩ := ih rest (by simp at h; omega)
      refine ⟨?_, by rw [packPixels, List.flatMap_cons, bytePixels_append, hback]; rfl⟩
      rw [packPixels, hpack, List.range_succ_eq_map, List.map_cons, List.map_map]
      rfl

theorem codeRow_eq (row : List Pixel) : codeRow row = if (rowUnits row).length ≤ row.length / 2 - 1
    then 0x00#8 :: countByte (rowUnits row).length :: (rowUnits row).map unitByte else 0x01#8 :: packPixels row := rfl

theorem length_codeRow {row : List Pixel} {k : Nat} (h : row.length = 2 * k) (hk : 1 ≤ k) : (codeRow row).length ≤ 1 + k := by
  have hpack := congrArg List.length (packPixels_spec k row h).1
  rw [List.length_map, List.length_range] at hpack
  rw [codeRow_eq]
  split
  · simp only [List.length_cons, List.length_map]
    omega
  · rw [List.length_cons, hpack]
    omega

theorem flatMap_units {us : List (Pixel × Nat)} (h : ∀ u ∈ us, 1 ≤ u.2 ∧ u.2 ≤ 16) :
    (us.map unitByte).flatMap unitPixels = us.flatMap fun u => List.replicate u.2 u.1 := by
  rw [List.flatMap_map]
  exact List.flatMap_congr fun u hu => unitPixels_unitByte (h u hu).1 (h u hu).2

theorem decodeRow_run (w : Nat) (u : Byte) (rest : List Byte) :
    decodeRow w (0x00#8 :: u :: rest) = if u.toNat ≤ rest.length ∧ ((rest.take u.toNat).flatMap unitPixels).length = w
      then some ((rest.take u.toNat).flatMap unitPixels, rest.drop u.toNat) else none := rfl

theorem decodeRow_literal (w : Nat) (rest : List Byte) :
    decodeRow w (0x01#8 :: rest) = if w / 2 ≤ rest.length then some ((rest.take (w / 2)).flatMap bytePixels, rest.drop (w / 2)) else none := rfl

/-- A coded row decodes to the row and leaves what follows. -/
theorem decodeRow_codeRow {row : List Pixel} {k : Nat} (h : row.length = 2 * k) (hk : 1 ≤ k) (hk64 : k ≤ 64) (rest : List Byte) :
    decodeRow row.length (codeRow row ++ rest) = some (row, rest) := by
  have hhalf : row.length / 2 = k := by omega
  obtain ⟨hpix, hlens, -⟩ := unitsOf_rowUnits (row := row) (by rintro rfl; simp at h; omega)
  rw [codeRow_eq, hhalf]
  split
  · next hrun =>
    have hcount : (countByte (rowUnits row).length).toNat = (rowUnits row).length := toNat_countByte (by omega)
    have htake : ((rowUnits row).map unitByte ++ rest).take (rowUnits row).length = (rowUnits row).map unitByte := List.take_left' (by simp)
    have hdrop : ((rowUnits row).map unitByte ++ rest).drop (rowUnits row).length = rest := List.drop_left' (by simp)
    rw [List.cons_append, List.cons_append, decodeRow_run]
    simp only [hcount, htake, hdrop, flatMap_units hlens, ← hpix]
    exact if_pos ⟨by simp, trivial⟩
  · obtain ⟨hpack, hback⟩ := packPixels_spec k row h
    have hlen : (packPixels row).length = k := by rw [hpack]; simp
    rw [List.cons_append, decodeRow_literal, hhalf, List.take_left' hlen, List.drop_left' hlen, hback]
    exact if_pos (by simp [hlen])

theorem decodeRows_codeRows {w k : Nat} (hw : w = 2 * k) (hk : 1 ≤ k) (hk64 : k ≤ 64) (rows : List (List Pixel))
    (h : ∀ row ∈ rows, row.length = w) : decodeRows w rows.length (rows.map codeRow).flatten = some rows := by
  induction rows with
  | nil => rfl
  | cons row rows ih =>
    obtain ⟨hrow, hrows⟩ := List.forall_mem_cons.mp h
    have hdec := decodeRow_codeRow (row := row) (k := k) (by omega) hk hk64 (rows.map codeRow).flatten
    rw [hrow] at hdec
    rw [List.map_cons, List.flatten_cons, List.length_cons, decodeRows, hdec]
    simp only [ih hrows, Option.map_some]

/-! ### The panel (R134, R138, R179) -/

theorem parsePacket_cons (k l1 l0 : Byte) (rest : List Byte) : parsePacket (k :: l1 :: l0 :: rest) = some
    { kind := k, body := rest.take (be16 l1 l0).toNat,
      sound := rest.drop (be16 l1 l0).toNat == bytes16 (crc16 ([k, l1, l0] ++ rest.take (be16 l1 l0).toNat)) } := rfl

/-- A packet's bytes are read as its kind and body, with a sound check. -/
theorem parsePacket_packetBytes (k : Packet) (h : (packetBody k).length < 65536) :
    parsePacket (packetBytes k) = some { kind := packetKind k, body := packetBody k, sound := true } := by
  obtain ⟨l1, l0, hlen⟩ : ∃ l1 l0, bytes16 (BitVec.ofNat 16 (packetBody k).length) = [l1, l0] := ⟨_, _, rfl⟩
  have hnat : (be16 l1 l0).toNat = (packetBody k).length := by
    rw [(be16_eq_iff l1 l0 _).mpr hlen.symm, BitVec.toNat_ofNat]
    exact Nat.mod_eq_of_lt h
  have hbytes : packetBytes k = packetKind k :: l1 :: l0 :: (packetBody k ++ bytes16 (crc16 ([packetKind k, l1, l0] ++ packetBody k))) := by
    rw [packetBytes, hlen]
    rfl
  rw [hbytes, parsePacket_cons, hnat, List.take_left, List.drop_left, beq_self_eq_true]

/-- A STRIPE of the position the panel holds is taken, passed on and answered ACK. -/
theorem panelStep_stripe {f n : Byte} {p : Pos} {coded : List (List Byte)} {rows : List (List Pixel)} {x : Panel}
    (hlen : (packetBody (.stripe f p n coded)).length < 65536) (hpos : x.position = some (posByte p)) (hn : n.toNat < x.height / 8)
    (hrows : decodeRows x.width 8 coded.flatten = some rows) :
    panelStep (packetBytes (.stripe f p n coded)) x =
      { panel := { x with pending := some (f, (n.toNat, rows) :: (pendingOf f x).filter fun e => e.1 != n.toNat) },
        onward := packetBytes (.stripe f p n coded), answer := some (packetBytes (.ack p)) } := by
  have htake : takePacket { kind := 0x03#8, body := f :: posByte p :: n :: coded.flatten, sound := true } x
      = some { x with pending := some (f, (n.toNat, rows) :: (pendingOf f x).filter fun e => e.1 != n.toNat) } := by
    refine (if_pos hn).trans ?_
    rw [hrows]
    rfl
  have hack : singlePacket 0x81#8 (posByte p) = packetBytes (.ack p) := (packetBytes_single (k := .ack p) rfl).symm
  have haddr : addressOf { kind := 0x03#8, body := f :: posByte p :: n :: coded.flatten, sound := true } = some (posByte p) := rfl
  unfold panelStep
  rw [parsePacket_packetBytes _ hlen]
  simp only [packetKind, packetBody, List.cons_append, List.nil_append, hpos, haddr, htake, hack, if_true]
  rfl

/-- Settles O55, by induction on the row, unit by unit and pair by pair, and on the rows of the stripe. -/
theorem stripeReachesPanel : Obligations.StripeReachesPanel := by
  refine ⟨fun row rest hlen => ?_, fun f n p rows x h8 hw hrows hpos hn => ?_⟩
  · obtain ⟨k, hk, hk1, hk64⟩ : ∃ k, row.length = 2 * k ∧ 1 ≤ k ∧ k ≤ 64 := ⟨row.length / 2, by omega, by omega, by omega⟩
    have hhalf : row.length / 2 = k := by omega
    refine ⟨⟨rowUnits row, unitsOf_rowUnits (by rintro rfl; simp at hlen), ?_⟩, hhalf ▸ length_codeRow hk hk1, decodeRow_codeRow hk hk1 hk64 rest⟩
    rw [codeRow_eq, (packPixels_spec k row hk).1, hhalf]
    rfl
  · obtain ⟨k, hk, hk1, hk64⟩ : ∃ k, x.width = 2 * k ∧ 1 ≤ k ∧ k ≤ 64 := ⟨x.width / 2, by omega, by omega, by omega⟩
    have hbytes : (rows.map codeRow).flatten.length ≤ rows.length * (1 + k) := by
      have hsum := List.sum_le_card_nsmul (rows.map fun row => (codeRow row).length) (1 + k) fun m hm => by
        obtain ⟨row, hrow, rfl⟩ := List.mem_map.mp hm
        exact length_codeRow ((hrows row hrow).trans hk) hk1
      rw [List.length_map, smul_eq_mul] at hsum
      rw [List.length_flatten, List.map_map]
      exact hsum
    refine panelStep_stripe ?_ hpos hn ?_
    · simp only [packetBody, List.length_append, List.length_cons, List.length_nil]
      rw [h8] at hbytes
      omega
    · exact h8 ▸ decodeRows_codeRows hk hk1 hk64 rows hrows

end Sys2Proof.Machine

end

/-! Sub-ticks: the clock's run, and the overlay that scrolls (R39, R40, R95, R96). -/

section

namespace Sys2Proof.Machine

open Sys2Proof

/-! ### The run of the clock (R39) -/

theorem advanceOf_eq (w : Bool) (slew : Int) : advanceOf w slew = if w = true then (1 + slew.sign).toNat else 1 := by
  cases w with
  | false => rfl
  | true =>
    rcases lt_trichotomy slew 0 with h | h | h
    · simp [advanceOf, h, Int.sign_eq_neg_one_of_neg h, Int.not_lt.mpr h.le]
    · subst h
      rfl
    · simp [advanceOf, h, Int.sign_eq_one_of_pos h]

theorem slewAfter_eq (w : Bool) (slew : Int) : slewAfter w slew = if w = true then slew - slew.sign else slew := by
  cases w with
  | false => rfl
  | true =>
    rcases lt_trichotomy slew 0 with h | h | h
    · simp [slewAfter, h, Int.sign_eq_neg_one_of_neg h, Int.not_lt.mpr h.le]
    · subst h
      rfl
    · simp [slewAfter, h, Int.sign_eq_one_of_pos h]

/-- The run of a clock: its value, slew and held flag. -/
theorem runClock_eq (w : Bool) {c : Clock} {step : Nat} {stays : Bool}
    (hstays : stays = (c.held && decide (c.value = 1727999)))
    (hstep : step = (if w = true then (1 + c.slew.sign).toNat else 1)) :
    runClock w c = { c with
      value := min 1727999 (c.value + step),
      slew := if stays = true then (if w = true then 0 else c.slew)
              else if 1727999 < c.value + step ∨ (w = true ∧ c.value = 1727999) then 0
              else if w = true then c.slew - c.slew.sign else c.slew,
      held := stays || decide (1727999 < c.value + step) } := by
  have hhold : stays = atHold c := by rw [hstays, atHold, beq_eq_decide]; rfl
  have hadv : advanceOf w c.slew = step := (advanceOf_eq w c.slew).trans hstep.symm
  unfold runClock
  rw [hadv, ← hhold, slewAfter_eq, show holdValue = 1727999 from rfl]
  cases hs : stays with
  | true =>
    rw [hs, eq_comm, Bool.and_eq_true, decide_eq_true_eq] at hstays
    obtain ⟨hheld, hvalue⟩ := hstays
    rw [if_pos rfl, if_pos rfl, Nat.min_eq_left (by omega), ← hvalue]
    simp [hheld]
  | false =>
    rw [if_neg Bool.false_ne_true, if_neg Bool.false_ne_true]
    by_cases hpast : 1727999 < c.value + step
    · rw [if_pos hpast, if_pos (Or.inl hpast), Nat.min_eq_left hpast.le]
      simp [hpast]
    · rw [if_neg hpast, Nat.min_eq_right (Nat.le_of_not_lt hpast)]
      simp [hpast]

/-! ### The clock's sub-tick (R39, R40) -/

theorem lapsesAtHold_iff (c : Clock) : lapsesAtHold c = true ↔ 1727999 ≤ c.value ∧ (c.state = .locked ∨ c.state = .coasting) := by
  rw [lapsesAtHold, Bool.and_eq_true, decide_eq_true_iff]
  simp [holdValue]

theorem clockSubTick_unset {s : State} (w : Bool) (h : s.clock.state = .unset) : clockSubTick w s = s := if_pos h

theorem clockSubTick_runs {s : State} {w : Bool} (hset : s.clock.state ≠ .unset)
    (h : (runClock w s.clock).value < 1727999 ∨ s.clock.state = .acquiring ∨ s.clock.state = .lapsed) :
    clockSubTick w s = { s with clock := runClock w s.clock } := by
  have hno : ¬ lapsesAtHold (runClock w s.clock) = true := by
    rw [lapsesAtHold_iff, runClock_state]
    rintro ⟨hv, hst⟩
    rcases h with h | h | h
    · omega
    · simp [h] at hst
    · simp [h] at hst
  exact (if_neg hset).trans (if_neg hno)

theorem clockSubTick_lapses {s : State} {w : Bool} (hst : s.clock.state = .locked ∨ s.clock.state = .coasting)
    (hv : (runClock w s.clock).value = 1727999) :
    clockSubTick w s = recompute { s with clock := { runClock w s.clock with state := .lapsed },
                                          notices := offerTo s.notices .clockLapsed 1 s.unit.uptime } := by
  have hset : s.clock.state ≠ .unset := by rcases hst with h | h <;> rw [h] <;> exact fun hc => by cases hc
  have hyes : lapsesAtHold (runClock w s.clock) = true := by
    rw [lapsesAtHold_iff, runClock_state]
    exact ⟨hv.ge, hst⟩
  exact (if_neg hset).trans (if_pos hyes)

theorem holdReached_iff (w : Bool) (s : State) : holdReached w s = true ↔ s.clock.state ≠ .unset
    ∧ 1727999 ≤ (runClock w s.clock).value
    ∧ (s.clock.value < 1727999 ∨ (1727999 ≤ s.clock.value ∧ (s.clock.state = .locked ∨ s.clock.state = .coasting))) := by
  rw [← lapsesAtHold_iff]
  rw [holdReached, Bool.and_eq_true, Bool.and_eq_true, Bool.or_eq_true, decide_eq_true_iff, decide_eq_true_iff, and_assoc, bne_iff_ne]
  exact Iff.rfl

/-! ### The overlay that scrolls (R96 to R99) -/

theorem bandStyle_eq_iff (b : BandStyle) (f : Option Font) (fg bg : Pixel) (lang : Nat) :
    b = { font := f, fg := fg, bg := bg, lang := lang } ↔ f = b.font ∧ fg = b.fg ∧ bg = b.bg ∧ lang = b.lang := by
  constructor
  · rintro rfl
    exact ⟨rfl, rfl, rfl, rfl⟩
  · rintro ⟨rfl, rfl, rfl, rfl⟩
    rfl

theorem fullStyle_iff {s : State} {f : Option Font} {fg bg : Pixel} {lang : Nat} :
    FullStyle s f fg bg lang ↔ bandStyle s = { font := f, fg := fg, bg := bg, lang := lang } := by
  unfold FullStyle bandStyle
  cases hp : currentPage s.board with
  | none => exact ⟨fun h => by simpa [bandStyle_eq_iff] using h, fun h => .inl ⟨by simp, (bandStyle_eq_iff _ _ _ _ _).mp h⟩⟩
  | some p =>
    cases hl : p.lines with
    | nil =>
      dsimp only
      rw [hl, bandStyle_eq_iff]
      simp [hl]
    | cons l ls =>
      dsimp only
      rw [hl, bandStyle_eq_iff]
      simp [hl]

theorem scrollsIn_iff (o : Overlay) (f : Option Font) (codes : List Nat) (w : Nat) :
    scrollsIn o f codes w = true ↔ o.present = .scroll ∧ w < textWidth f codes := by
  simp [scrollsIn]

theorem topScrolls_iff (s : State) : topScrolls s = true ↔ Scrolls s := by
  unfold topScrolls Scrolls
  cases hr : s.overlays.records with
  | nil => simp
  | cons o os =>
    cases hs : o.scope with
    | full =>
      have hstyle : ∀ f fg bg lang, FullStyle s f fg bg lang ↔ f = (bandStyle s).font ∧ fg = (bandStyle s).fg ∧ bg = (bandStyle s).bg
          ∧ lang = (bandStyle s).lang := fun f fg bg lang => fullStyle_iff.trans (bandStyle_eq_iff _ _ _ _ _)
      simp [hs, scrollsIn_iff, hstyle]
    | band =>
      cases hp : currentPage s.board with
      | none => simp [hs]
      | some p =>
        simp only [hs, Bool.and_eq_true, List.any_eq_true]
        constructor
        · rintro ⟨hrend, l, hl, hscroll⟩
          cases hk : l.kind with
          | band i =>
            rw [hk] at hscroll
            obtain ⟨hpres, hwide⟩ := (scrollsIn_iff _ _ _ _).mp hscroll
            exact ⟨o, os, rfl, hpres, .inr ⟨hs, hrend, p, l, i, rfl, hl, hk, hwide⟩⟩
          | departure f n c x y z => simp [hk] at hscroll
          | clock f a => simp [hk] at hscroll
          | phrase i a => simp [hk] at hscroll
        · rintro ⟨o', os', heq, hpres, h⟩
          obtain ⟨rfl, rfl⟩ := List.cons.inj heq
          obtain ⟨-, hrend, q, l, i, hq, hl, hk, hwide⟩ := h.resolve_left fun hf => by simp [hs] at hf
          cases hq
          refine ⟨hrend, l, hl, ?_⟩
          rw [hk]
          exact (scrollsIn_iff _ _ _ _).mpr ⟨hpres, hwide⟩

/-- What the scrolling of the top overlay depends on: the stack, the stores, and the board but for its permission. -/
theorem topScrolls_congr {s t : State} (hrec : t.overlays.records = s.overlays.records) (hph : t.phrases = s.phrases)
    (hf : t.fonts = s.fonts) (hb : withoutPermission t.board = withoutPermission s.board) : topScrolls t = topScrolls s := by
  have hboard : t.board = { s.board with allowed := t.board.allowed } :=
    congrArg (fun b : Board => { b with allowed := t.board.allowed }) hb
  unfold topScrolls bandStyle currentPage
  rw [hrec, hph, hf, hboard]

/-- The stack as a sub-tick leaves it: the shown-since count rises while a record is held. -/
def shownOn (s : State) : State :=
  { s with overlays := { s.overlays with
      shownSince := if s.overlays.records = [] then s.overlays.shownSince else (s.overlays.shownSince + 1) % 4294967296 } }

theorem overlaySubTick_eq (s : State) : overlaySubTick s = if topScrolls s = true then overlayRender (shownOn s) else shownOn s := by
  unfold overlaySubTick
  by_cases hr : s.overlays.records = []
  · have hno : topScrolls s = false := by rw [topScrolls, hr]
    rw [if_pos hr, hno, if_neg Bool.false_ne_true, shownOn, if_pos hr]
  · have hsame : topScrolls (shownOn s) = topScrolls s := topScrolls_congr rfl rfl rfl rfl
    rw [if_neg hr, ← hsame, shownOn, if_neg hr]
    rfl

theorem overlaySubTick_scrolls {s : State} (hm : s.board.mode = .run) (h : topScrolls s = true) :
    overlaySubTick s = settle (requestRender (shownOn s)) := by
  rw [overlaySubTick_eq, if_pos h, overlayRender_run (s := shownOn s) hm]

theorem overlaySubTick_rests {s : State} (h : s.board.mode ≠ .run ∨ ¬ topScrolls s = true) : overlaySubTick s = shownOn s := by
  rw [overlaySubTick_eq]
  split
  · next hscrolls => exact overlayRender_other (s := shownOn s) (h.resolve_right (not_not_intro hscrolls))
  · rfl

theorem topScrolls_clockSubTick (w : Bool) (s : State) : topScrolls (clockSubTick w s) = topScrolls s :=
  topScrolls_congr (by simp) (by simp) (by simp) (by simp)

theorem mode_clockSubTick (w : Bool) (s : State) : (clockSubTick w s).board.mode = s.board.mode := by
  have hb : (withoutPermission (clockSubTick w s).board).mode = (withoutPermission s.board).mode :=
    congrArg Board.mode (withoutPermission_clockSubTick w s)
  exact hb

/-- The state after the clock's part of a sub-tick, which it may have taken ahead. -/
def clockPart (w : Bool) (s : State) : State := if s.subTaken = true then s else clockSubTick w s

theorem topScrolls_clockPart (w : Bool) (s : State) : topScrolls (clockPart w s) = topScrolls s := by
  unfold clockPart
  split
  · rfl
  · exact topScrolls_clockSubTick w s

theorem mode_clockPart (w : Bool) (s : State) : (clockPart w s).board.mode = s.board.mode := by
  unfold clockPart
  split
  · rfl
  · exact mode_clockSubTick w s

theorem overlays_clockPart (w : Bool) (s : State) : (clockPart w s).overlays = s.overlays := by
  unfold clockPart
  split
  · rfl
  · exact clockSubTick_overlays w s

/-- Settles O14: the clock's part by its run and its lapse at the hold, the stack's by whether its top scrolls. -/
theorem subTickAdvances : Obligations.SubTickAdvances := by
  intro w s step c stays hv hstays hstep hc
  have hrun : runClock w s.clock = c := (runClock_eq w hstays hstep).trans hc.symm
  have hle : c.value ≤ 1727999 := by
    rw [hc]
    exact Nat.min_le_left _ _
  have hstate : c.state = s.clock.state := by rw [hc]
  have htakes : s.subTaken = false → clockPart w s = clockSubTick w s := fun h => if_neg (by simp [h])
  have hscroll : topScrolls (clockPart w s) = true ↔ Scrolls s := by rw [topScrolls_clockPart, topScrolls_iff]
  refine ⟨clockPart w s, shownOn (clockPart w s), ?_, fun hfree hset h => ?_, fun hfree hst hval => ?_, by rw [shownOn, overlays_clockPart],
    fun hm h => ?_, fun h => ?_, fun hfree hset hval h => ?_, fun h => ?_⟩
  · rintro (h | h)
    · exact if_pos h
    · unfold clockPart
      rw [clockSubTick_unset w h, ite_self]
  · rw [htakes hfree, clockSubTick_runs hset (by rwa [hrun]), hrun]
  · rw [htakes hfree, clockSubTick_lapses hst (by rwa [hrun]), hrun]
  · exact congrArg (fun t : State => Host.Outcome.next { t with subTaken := false })
      (overlaySubTick_scrolls ((mode_clockPart w s).trans hm) (hscroll.mpr h))
  · exact congrArg (fun t : State => Host.Outcome.next { t with subTaken := false })
      (overlaySubTick_rests (h.imp (fun hm => by rwa [mode_clockPart]) (mt hscroll.mp)))
  · have hreached : holdReached w s = true := by
      rw [holdReached_iff, hrun]
      exact ⟨hset, hval.ge, (Nat.lt_or_ge _ _).imp_right fun hge => ⟨hge, h.resolve_left (Nat.not_lt.mpr hge)⟩⟩
    rw [htakes hfree]
    exact congrArg Host.Outcome.next (if_pos ⟨hfree, hreached⟩)
  · refine congrArg Host.Outcome.next (if_neg ?_)
    rw [holdReached_iff, hrun]
    rintro ⟨hfree, hset, hval, hlow⟩
    rcases h with h | h | h | ⟨h, hst⟩
    · simp [hfree] at h
    · exact hset h
    · omega
    · rcases hst with hst | hst <;> simp [hst] at hlow <;> omega

end Sys2Proof.Machine

end

/-! SET_PAGE: the checks of a line definition, and what storing a page leaves (R61 to R63, R66). -/

section

namespace Sys2Proof.Machine

open Sys2Proof

/-! ### The fields of a line definition (Table 4-3) -/

theorem readFlag_iff (b : Byte) (f : Bool) : readFlag b = some f ↔ b.toNat ≤ 1 ∧ f = decide (b = 1#8) := by
  unfold readFlag
  split
  · next hb => simp [hb, eq_comm]
  · split
    · next hb => simp [hb, eq_comm]
    · next h0 h1 =>
      refine iff_of_false (fun h => by cases h) ?_
      rintro ⟨hle, -⟩
      exact (byte_le_one hle).elim h0 h1

theorem readFormat_iff (b : Byte) (f : ClockFormat) :
    readFormat b = some f ↔ b.toNat ≤ 1 ∧ f = if b = 0#8 then .hhmm else .hhmmss := by
  constructor
  · intro h
    unfold readFormat at h
    split at h
    · next hb =>
      cases h
      exact ⟨by omega, by rw [BitVec.eq_of_toNat_eq (y := 0#8) hb]; rfl⟩
    · next hb =>
      cases h
      exact ⟨by omega, by rw [BitVec.eq_of_toNat_eq (y := 1#8) hb]; rfl⟩
    · cases h
  · rintro ⟨hb, rfl⟩
    rcases byte_le_one hb with rfl | rfl <;> rfl

theorem readAlign_iff (b : Byte) (a : Align) : readAlign b = some a ↔ AlignCode b a := by
  constructor
  · intro h
    unfold readAlign at h
    split at h
    · next hb => exact .inl ⟨BitVec.eq_of_toNat_eq hb, (Option.some.inj h).symm⟩
    · next hb => exact .inr (.inl ⟨BitVec.eq_of_toNat_eq hb, (Option.some.inj h).symm⟩)
    · next hb => exact .inr (.inr ⟨BitVec.eq_of_toNat_eq hb, (Option.some.inj h).symm⟩)
    · cases h
  · rintro (⟨rfl, rfl⟩ | ⟨rfl, rfl⟩ | ⟨rfl, rfl⟩) <;> rfl

theorem fieldFits_iff (w : Nat) (f : RawField) : fieldFits w (readField f) = true ↔ FieldWithin w f := by
  have hzero : f.width = 0#16 ↔ f.width.toNat = 0 := by bv_omega
  rw [fieldFits, Bool.or_eq_true, beq_iff_eq, decide_eq_true_iff, FieldWithin, ne_eq, hzero, or_iff_not_imp_left]
  exact Iff.rfl

theorem fieldsApart_iff (f g : RawField) : fieldsApart (readField f) (readField g) = true ↔ ¬ ShareColumn f g := by
  have happart : fieldsApart (readField f) (readField g) = true ↔
      f.width.toNat = 0 ∨ g.width.toNat = 0 ∨ f.x.toNat + f.width.toNat ≤ g.x.toNat ∨ g.x.toNat + g.width.toNat ≤ f.x.toNat := by
    rw [fieldsApart, Bool.or_eq_true, Bool.or_eq_true, Bool.or_eq_true, beq_iff_eq, beq_iff_eq, decide_eq_true_iff, decide_eq_true_iff,
      or_assoc, or_assoc]
    exact Iff.rfl
  rw [happart]
  constructor
  · rintro h ⟨c, hf, hf', hg, hg'⟩
    omega
  · intro h
    by_contra hno
    exact h ⟨max f.x.toNat g.x.toNat, by omega, by omega, by omega, by omega⟩

/-- The kind of a line definition reads exactly where its fields pass Table 4-3. -/
theorem readBody_iff (w : Nat) (b : RawBody) (k : LineKind) : readBody w b = some k ↔ KindReads w b k := by
  cases b with
  | departure filter rank cancelled code dest time =>
    dsimp only [readBody, KindReads]
    cases hc : readFlag cancelled with
    | none =>
      have hbad : ¬ cancelled.toNat ≤ 1 := fun h => by
        rw [(readFlag_iff cancelled _).mpr ⟨h, rfl⟩] at hc
        cases hc
      simp [hbad]
    | some c =>
      obtain ⟨hle, rfl⟩ := (readFlag_iff cancelled c).mp hc
      dsimp only
      rw [Option.ite_none_right_eq_some]
      simp only [fieldFits_iff, fieldsApart_iff, List.forall_mem_cons, List.not_mem_nil, false_implies, implies_true, and_true, and_assoc, hle,
        true_and, Option.some.injEq, eq_comm (b := k)]
      exact Iff.rfl
  | clock format align =>
    dsimp only [readBody, KindReads]
    constructor
    · intro h
      split at h
      · next f a hf ha =>
        cases h
        obtain ⟨hle, rfl⟩ := (readFormat_iff format f).mp hf
        exact ⟨hle, a, (readAlign_iff align a).mp ha, rfl⟩
      · cases h
    · rintro ⟨hle, a, ha, rfl⟩
      rw [(readFormat_iff format _).mpr ⟨hle, rfl⟩, (readAlign_iff align a).mpr ha]
  | phrase id align =>
    dsimp only [readBody, KindReads]
    constructor
    · intro h
      split at h
      · next a ha =>
        obtain ⟨hid, hk⟩ := Option.ite_none_right_eq_some.mp h
        cases hk
        obtain ⟨h1, h2⟩ := of_decide_eq_true hid
        exact ⟨h1, h2, a, (readAlign_iff align a).mp ha, rfl⟩
      · cases h
    · rintro ⟨h1, h2, a, ha, rfl⟩
      rw [(readAlign_iff align a).mpr ha]
      exact if_pos (decide_eq_true ⟨h1, h2⟩)
  | band id =>
    dsimp only [readBody, KindReads]
    rw [Option.ite_none_right_eq_some, phraseIdOk, decide_eq_true_iff, and_assoc, Option.some.injEq, eq_comm (b := k)]
  | other n => simp [readBody, KindReads]

/-- A line definition reads exactly where it passes the checks of R61 and R62. -/
theorem readLine_iff (cw ch : Nat) (r : RawLine) (l : LineDef) : readLine cw ch r = some l ↔ LineReads cw ch r l := by
  unfold readLine LineReads
  rw [BitVec.ofNat_toNat, BitVec.ofNat_toNat]
  constructor
  · intro h
    split at h
    · next k hk =>
      obtain ⟨⟨h1, h2, h3, h4, h5, h6, h7⟩, hl⟩ := Option.ite_none_right_eq_some.mp h
      cases hl
      exact ⟨h1, h2, h3, h4, h5, h6, h7, (readBody_iff _ _ _).mp hk, rfl⟩
    · cases h
  · rintro ⟨h1, h2, h3, h4, h5, h6, h7, hk, hl⟩
    rw [(readBody_iff _ _ _).mpr hk]
    exact (if_pos ⟨h1, h2, h3, h4, h5, h6, h7⟩).trans (congrArg some hl.symm)

/-! ### The lines of a page (R61) -/

theorem readLines_eq_some_iff {cw ch : Nat} {raws : List RawLine} {ls : List LineDef} :
    readLines cw ch raws = some ls ↔ List.Forall₂ (fun r l => readLine cw ch r = some l) raws ls := by
  induction raws generalizing ls with
  | nil => simp [readLines, eq_comm]
  | cons r rs ih =>
    constructor
    · intro h
      obtain ⟨d, ds, hd, hds, rfl⟩ := readLines_cons h
      exact .cons hd (ih.mp hds)
    · rintro (_ | ⟨hd, hds⟩)
      rw [readLines, hd, ih.mpr hds]

/-- Of lines that read together each reads. -/
theorem readLine_of_readLines {cw ch : Nat} {raws : List RawLine} {ls : List LineDef}
    (h : List.Forall₂ (fun r l => readLine cw ch r = some l) raws ls) : ∀ r ∈ raws, ∃ l, readLine cw ch r = some l := by
  induction h with
  | nil => simp
  | cons hd _ ih => exact List.forall_mem_cons.mpr ⟨⟨_, hd⟩, ih⟩

/-- Two line definitions share a row (R61). -/
def ShareRow (l m : RawLine) : Prop := l.y.toNat < m.y.toNat + m.height.toNat ∧ m.y.toNat < l.y.toNat + l.height.toNat

theorem rowsApart_iff {cw ch : Nat} {r q : RawLine} {l m : LineDef} (hl : readLine cw ch r = some l) (hm : readLine cw ch q = some m) :
    rowsApart l m = true ↔ ¬ ShareRow r q := by
  obtain ⟨-, -, -, -, -, -, -, -, hl⟩ := (readLine_iff _ _ _ _).mp hl
  obtain ⟨-, -, -, -, -, -, -, -, hm⟩ := (readLine_iff _ _ _ _).mp hm
  rw [rowsApart, Bool.or_eq_true, decide_eq_true_iff, decide_eq_true_iff, hl, hm, ShareRow]
  dsimp only
  omega

/-- No line among those read shares a row with a given one exactly when no definition does. -/
theorem all_rowsApart_iff {cw ch : Nat} {r : RawLine} {l : LineDef} (hl : readLine cw ch r = some l) {raws : List RawLine}
    {ls : List LineDef} (h : List.Forall₂ (fun r l => readLine cw ch r = some l) raws ls) :
    ls.all (rowsApart l) = true ↔ ∀ q ∈ raws, ¬ ShareRow r q := by
  induction h with
  | nil => simp
  | cons hm _ ih => rw [List.all_cons, Bool.and_eq_true, ih, rowsApart_iff hl hm, List.forall_mem_cons]

theorem linesApart_iff {cw ch : Nat} {raws : List RawLine} {ls : List LineDef}
    (h : List.Forall₂ (fun r l => readLine cw ch r = some l) raws ls) :
    linesApart ls = true ↔ raws.Pairwise fun r q => ¬ ShareRow r q := by
  induction h with
  | nil => simp [linesApart]
  | cons hl hls ih => rw [linesApart, Bool.and_eq_true, ih, all_rowsApart_iff hl hls, List.pairwise_cons]

/-- Two of the definitions share a row. -/
theorem not_pairwise_shareRow_iff (raws : List RawLine) : (¬ raws.Pairwise fun r q => ¬ ShareRow r q) ↔
    ∃ i j : Nat, i < j ∧ ∃ l m : RawLine, raws[i]? = some l ∧ raws[j]? = some m ∧ ShareRow l m := by
  rw [List.pairwise_iff_getElem]
  constructor
  · intro h
    push Not at h
    obtain ⟨i, j, hi, hj, hij, hshare⟩ := h
    exact ⟨i, j, hij, raws[i], raws[j], List.getElem?_eq_getElem hi, List.getElem?_eq_getElem hj, hshare⟩
  · rintro ⟨i, j, hij, l, m, hl, hm, hshare⟩ h
    obtain ⟨hi, rfl⟩ := List.getElem?_eq_some_iff.mp hl
    obtain ⟨hj, rfl⟩ := List.getElem?_eq_some_iff.mp hm
    exact h i j hi hj hij hshare

/-! ### The page of SET_PAGE (R61 to R63) -/

theorem readPage_eq_some_iff {b : Board} {dwell language skip : Byte} {raws : List RawLine} {page : Option Page} :
    readPage b dwell language skip raws = some page ↔ ∃ ls : List LineDef,
      List.Forall₂ (fun r l => readLine b.width b.height r = some l) raws ls
      ∧ language.toNat ≤ 2 ∧ skip.toNat ≤ 1 ∧ raws.length ≤ 8 ∧ (raws.Pairwise fun r q => ¬ ShareRow r q)
      ∧ page = (if raws = [] then none else some { dwell := max 2 (min 60 dwell.toNat), language := language.toNat,
                                                   skip := decide (skip = 1#8), lines := ls }) := by
  constructor
  · intro h
    unfold readPage at h
    split at h
    · next f ls hf hls =>
      obtain ⟨⟨hlang, hlen, hapart⟩, hpage⟩ := Option.ite_none_right_eq_some.mp h
      have hread := readLines_eq_some_iff.mp hls
      obtain ⟨hskip, rfl⟩ := (readFlag_iff skip f).mp hf
      have hnil : ls = [] ↔ raws = [] := by rw [← List.length_eq_zero_iff, ← hread.length_eq, List.length_eq_zero_iff]
      cases hpage
      exact ⟨ls, hread, hlang, hskip, hread.length_eq.trans_le hlen, (linesApart_iff hread).mp hapart, by simp only [hnil]; rfl⟩
    · cases h
  · rintro ⟨ls, hread, hlang, hskip, hlen, hapart, rfl⟩
    have hnil : ls = [] ↔ raws = [] := by rw [← List.length_eq_zero_iff, ← hread.length_eq, List.length_eq_zero_iff]
    unfold readPage
    rw [(readFlag_iff skip _).mpr ⟨hskip, rfl⟩, readLines_eq_some_iff.mpr hread]
    refine (if_pos ⟨hlang, hread.length_eq ▸ hlen, (linesApart_iff hread).mpr hapart⟩).trans ?_
    simp only [hnil]
    rfl

/-- A page that is refused whatever its lines' kinds are does not read. -/
theorem not_badPage {b : Board} {index dwell language skip : Byte} {raws : List RawLine} {page : Option Page} {i : Fin 4}
    (hi : pageIndex index = some i) (hp : readPage b dwell language skip raws = some page) : ¬ BadPage b index language skip raws := by
  obtain ⟨ls, hread, hlang, hskip, hlen, hapart, -⟩ := readPage_eq_some_iff.mp hp
  have hindex : index.toNat < 4 := by
    unfold pageIndex at hi
    split at hi
    · assumption
    · cases hi
  rintro (h | h | h | h | ⟨l, hl, h⟩ | h)
  · omega
  · omega
  · omega
  · omega
  · obtain ⟨d, hd⟩ := readLine_of_readLines hread l hl
    obtain ⟨h1, h2, h3, h4, h5, h6, h7, -, -⟩ := (readLine_iff _ _ _ _).mp hd
    rcases h with h | h | h | h | h | h | h
    · exact h1 h
    · exact h2 h
    all_goals omega
  · exact (not_pairwise_shareRow_iff raws).mpr h hapart

theorem readPage_good {b : Board} {index dwell language skip : Byte} {raws : List RawLine} {ls : List LineDef}
    (hgood : ¬ BadPage b index language skip raws) (hread : List.Forall₂ (fun r l => readLine b.width b.height r = some l) raws ls) :
    readPage b dwell language skip raws = some (if raws = [] then none else some {
      dwell := max 2 (min 60 dwell.toNat), language := language.toNat, skip := decide (skip = 1#8), lines := ls }) := by
  simp only [BadPage, not_or, Nat.not_lt] at hgood
  obtain ⟨-, hlang, hskip, hlen, -, hshare⟩ := hgood
  have hapart : raws.Pairwise fun r q => ¬ ShareRow r q := not_not.mp (mt (not_pairwise_shareRow_iff raws).mp hshare)
  exact readPage_eq_some_iff.mpr ⟨ls, hread, hlang, hskip, hlen, hapart, rfl⟩

theorem setPageBody_refused {index dwell language skip : Byte} {raws : List RawLine} {s : State} (hm : isConfigured s.board.mode = true)
    (h : ∀ i p, pageIndex index = some i → readPage s.board dwell language skip raws ≠ some p) :
    setPageBody index dwell language skip raws s = (s, .refused .badField) := by
  rw [setPageBody, if_neg (by simp [hm])]
  split
  · next i p hi hp => exact absurd hp (h i p hi)
  · rfl

theorem setPageBody_stored {index dwell language skip : Byte} {raws : List RawLine} {s : State} {i : Fin 4} {page : Option Page}
    (hm : isConfigured s.board.mode = true) (hi : pageIndex index = some i)
    (hp : readPage s.board dwell language skip raws = some page) :
    setPageBody index dwell language skip raws s =
      (storePage i page s, done [BitVec.ofNat 8 (pageMask (setPageAt s.board.pages i page))]) := by
  rw [setPageBody, if_neg (by simp [hm]), hi, hp]
  rfl

theorem pageAt_setPageAt (ps : Pages) (i j : Fin 4) (page : Option Page) :
    pageAt (setPageAt ps i page) j = if j = i then page else pageAt ps j := by
  split
  · next h => rw [h, pageAt_setPageAt_same]
  · next h => exact pageAt_setPageAt_other ps h page

/-- The mask holds page i at bit i (log 14). -/
theorem getLsbD_pageMask (ps : Pages) (j : Fin 4) : (BitVec.ofNat 8 (pageMask ps)).getLsbD j.val = (pageAt ps j).isSome := by
  unfold pageMask
  fin_cases j <;> dsimp only [pageAt] <;> cases ps.p0.isSome <;> cases ps.p1.isSome <;> cases ps.p2.isSome <;> cases ps.p3.isSome <;> rfl

theorem pageMask_lt (ps : Pages) : pageMask ps < 16 := by
  unfold pageMask
  (repeat' split) <;> decide

/-- A page stored: the cycle restarts from index 0, and the records of a current page that stays are kept for their marks (R63, R66). -/
theorem storePage_eq {i : Fin 4} {page : Option Page} {s t : State} {d : Nat}
    (ht : t = { s with board := { s.board with pages := setPageAt s.board.pages i page } })
    (hd : ∀ j p, choice t 0 = some j → pageAt t.board.pages j = some p → d = p.dwell) (hd0 : choice t 0 = none → d = 0) :
    storePage i page s = { t with board := { t.board with
      current := choice t 0, dwell := d, lines := none, pending := false,
      kept := if choice t 0 = s.board.current ∧ s.board.current ≠ some i then s.board.lines.getD s.board.kept else [],
      rendered := s.board.rendered && decide (choice t 0 = s.board.current ∧ s.board.current ≠ some i) } } := by
  subst ht
  by_cases hcur : s.board.current = some i
  · have hkept {P : Prop} : ¬ (P ∧ s.board.current ≠ some i) := fun h => h.2 hcur
    rw [storePage_current hcur, if_neg hkept, decide_eq_false hkept, Bool.and_false]
    refine (choosePage_zero (s := { s with board := { s.board with
      pages := setPageAt s.board.pages i page, pending := false, lines := none, kept := [], rendered := false } }) (d := d) hd hd0).trans ?_
    simp only [Option.getD_none, ite_self, Bool.false_and]
    rfl
  · have hkept {P : Prop} : (P ∧ s.board.current ≠ some i) ↔ P := and_iff_left hcur
    rw [storePage_other hcur]
    simp only [hkept]
    exact choosePage_zero (s := { s with board := { s.board with
      pages := setPageAt s.board.pages i page, pending := false, lines := none, kept := heldLines s.board } }) (d := d) hd hd0

/-- Settles O45: what a line definition reads as, and the page stored with the cycle restarted. -/
theorem pageStored : Obligations.PageStored := by
  refine ⟨readLine_iff, ?_⟩
  rintro v index dwell language skip raws s a c rfl ha
  rw [← admission_state_board ha]
  refine ⟨fun hm => request_answered ha (if_pos (notConfigured hm)), fun hu he => ⟨fun hbad => ?_, ?_⟩⟩
  · refine request_answered ha (setPageBody_refused (configured hu he) fun i p hi hp => ?_)
    rcases hbad with hbad | ⟨l, hl, hnone⟩
    · exact not_badPage hi hp hbad
    · obtain ⟨ls, hread, -⟩ := readPage_eq_some_iff.mp hp
      obtain ⟨d, hd⟩ := readLine_of_readLines hread l hl
      rw [hnone] at hd
      cases hd
  · rintro i ls page hgood hi hread hpage
    have hindex : pageIndex index = some i := (dif_pos (hi ▸ i.isLt)).trans (congrArg some (Fin.ext hi))
    have hread : readPage a.state.board dwell language skip raws = some page := hpage ▸ readPage_good hgood hread
    generalize ht : ({ a.state with board := { a.state.board with pages := setPageAt a.state.board.pages i page } } : State) = t
    obtain ⟨d, hd, hd0⟩ : ∃ d, (∀ j p, choice t 0 = some j → pageAt t.board.pages j = some p → d = p.dwell) ∧ (choice t 0 = none → d = 0) := by
      refine ⟨(((choice t 0).bind (pageAt t.board.pages)).map fun p => p.dwell).getD 0, fun j p hj hp => ?_, fun hnone => ?_⟩
      · rw [hj, Option.bind_some, hp]
        rfl
      · rw [hnone]
        rfl
    have hpages : t.board.pages = setPageAt a.state.board.pages i page := by rw [← ht]
    refine ⟨_, t, d, _, fun j => pageAt_setPageAt _ i j _, ht.symm, hpages ▸ hd, hd0, getLsbD_pageMask _, ?_,
      request_answered ha ((setPageBody_stored (configured hu he) hindex hread).trans (congrArg (·, _) (storePage_eq ht.symm hd hd0)))⟩
    rw [BitVec.toNat_ofNat]
    exact lt_of_le_of_lt (Nat.mod_le _ _) (pageMask_lt _)

end Sys2Proof.Machine

end

/-! Renders: the image of each mode, the marks on the line records and on the panels, and the pixels of an image (R58, R59, R67, R68,
R97 to R100). -/

section

namespace Sys2Proof.Machine

open Sys2Proof

/-! ### What a render leaves (R67, R68) -/

theorem regionPixels_eq_iff (a b : Canvas) (g : Placement) :
    regionPixels a g = regionPixels b g ↔ ∀ r < g.height, regionRow a g r = regionRow b g r := by
  simp [regionPixels]

theorem regionChanged_iff (a b : Canvas) (o : Option Placement) :
    regionChanged a b o = true ↔ ∃ g, o = some g ∧ ∃ r, r < g.height ∧ regionRow a g r ≠ regionRow b g r := by
  cases o with
  | none => simp [regionChanged]
  | some g =>
    rw [regionChanged, bne_iff_ne, ne_eq, regionPixels_eq_iff]
    simp

/-- A render that paints an image and gives the line records these marks. -/
theorem rendersTo_of_paint {s : State} {image : Canvas} {lines : Option (List LineRecord)} {rendered : Bool}
    (h : requestRender s = paint image { s with board := { s.board with lines := lines, rendered := rendered } }) :
    RendersTo s image lines rendered := by
  refine ⟨_, h, fun p => ?_⟩
  rw [get_tabulate, Bool.or_eq_true]
  exact or_congr_right (regionChanged_iff _ _ _)

theorem drawCanvas_nil (w h : Nat) : drawCanvas w h [] = List.replicate h (List.replicate w 0#4) := by
  simp [drawCanvas, List.map_const']

theorem requestRender_none {s : State} (hidle : s.coder.state ≠ .coding)
    (h : s.board.mode = .unconfigured ∨ s.board.mode = .enumerating
      ∨ (s.board.mode = .run ∨ s.board.mode = .hold) ∧ s.board.current ≠ none ∧ s.board.lines = none) : requestRender s = s := by
  have hpage : s.board.current ≠ none → s.board.lines = none → renderPage s = s := fun hc hl => by
    unfold renderPage
    split
    · next hcur => exact absurd hcur hc
    · split
      · next hrs =>
        rw [hl] at hrs
        cases hrs
      · rfl
  rw [requestRender_performs hidle, performRender]
  rcases h with hm | hm | ⟨hm | hm, hc, hl⟩ <;> rw [hm]
  · exact hpage hc hl
  · exact hpage hc hl

theorem requestRender_blank {s : State} (hidle : s.coder.state ≠ .coding) (hm : s.board.mode = .blank) :
    requestRender s = paint (drawCanvas s.board.width s.board.height []) s := by
  rw [requestRender_performs hidle, performRender, hm]

theorem requestRender_test {s : State} (hidle : s.coder.state ≠ .coding) (hm : s.board.mode = .test) :
    requestRender s = paint (drawCanvas s.board.width s.board.height (testLayers s.board)) s := by
  rw [requestRender_performs hidle, performRender, hm]

theorem requestRender_page {s : State} (hidle : s.coder.state ≠ .coding) (hm : s.board.mode = .run ∨ s.board.mode = .hold) :
    requestRender s = renderPage s := by
  rw [requestRender_performs hidle, performRender]
  rcases hm with hm | hm <;> rw [hm]

theorem renderPage_bare {s : State} (h : s.board.current = none) :
    renderPage s = paint (drawCanvas s.board.width s.board.height (barePage s)) s := by
  rw [renderPage, h]

theorem renderPage_current {s : State} {i : Fin 4} {p : Page} {rs : List LineRecord} (h : s.board.current = some i)
    (hp : pageAt s.board.pages i = some p) (hl : s.board.lines = some rs) :
    renderPage s = paint (drawCanvas s.board.width s.board.height (pageLayers s p rs))
      { s with board := { s.board with lines := some (markRecords s p rs), rendered := true } } := by
  rw [renderPage, h]
  dsimp only
  rw [hp, hl]

/-! ### The layers of a display (R67, R97, R98) -/

section

variable {s : State}

theorem barePage_full {o : Overlay} (h : s.overlays.records.head? = some o) (hf : o.scope = .full) : barePage s = fullLayers s o := by
  unfold barePage
  cases hr : s.overlays.records with
  | nil => simp [hr] at h
  | cons q qs =>
    obtain rfl : q = o := by simpa [hr] using h
    exact if_pos hf

theorem barePage_band (h : ∀ o, s.overlays.records.head? = some o → o.scope = .band) : barePage s = [] := by
  unfold barePage
  cases hr : s.overlays.records with
  | nil => rfl
  | cons q qs => exact if_neg (by simp [h q (by simp [hr])])

theorem pageLayers_full {o : Overlay} (h : s.overlays.records.head? = some o) (hf : o.scope = .full) (p : Page) (rs : List LineRecord) :
    pageLayers s p rs = fullLayers s o := by
  unfold pageLayers
  cases hr : s.overlays.records with
  | nil => simp [hr] at h
  | cons q qs =>
    obtain rfl : q = o := by simpa [hr] using h
    exact if_pos hf

theorem pageLayers_band (h : ∀ o, s.overlays.records.head? = some o → o.scope = .band) (p : Page) (rs : List LineRecord) :
    pageLayers s p rs = (List.zipWith (fun l r =>
      filled l.x l.y l.width l.height l.bg :: contentLayers s p.language l r s.overlays.records.head?) p.lines rs).flatten := by
  unfold pageLayers
  cases hr : s.overlays.records with
  | nil => rfl
  | cons q qs => exact if_neg (by simp [h q (by simp [hr])])

theorem fullLayers_eq (o : Overlay) {f : Option Font} {fg bg : Pixel} {lang top : Nat} (hstyle : FullStyle s f fg bg lang)
    (htop : top = (s.board.height - fontHeight f) / 2) : fullLayers s o =
      [filled 0 top s.board.width (fontHeight f) bg,
        overlayText o s.overlays.shownSince 0 top s.board.width (fontHeight f) fg f top (phraseCodes s.phrases lang o.phrase)] := by
  have hband : bandTop s.board.height (fontHeight f) = top := by
    unfold bandTop
    split <;> omega
  rw [fullLayers, fullStyle_iff.mp hstyle]
  dsimp only
  rw [hband]

end

/-! ### The marks on the line records (R100) -/

theorem markRecord_marked (top : Option Overlay) (k : LineKind) (r : LineRecord) : Marked top k r (markRecord top k r) := by
  cases top with
  | none => exact ⟨fun o h => (by cases h), fun _ => rfl⟩
  | some o =>
    unfold markRecord
    refine ⟨fun q hq h => ?_, fun h => ?_⟩
    · cases hq
      rcases h with hf | ⟨i, rfl⟩
      · exact if_pos hf
      · dsimp only
        split <;> rfl
    · obtain ⟨hband, hk⟩ := h o rfl
      refine (if_neg (by simp [hband])).trans ?_
      cases k with
      | band i => exact absurd rfl (hk i)
      | departure | clock | phrase => rfl

theorem markRecords_getElem? {s : State} {p : Page} {rs : List LineRecord} {j : Nat} {l : LineDef} {r m : LineRecord}
    (hl : p.lines[j]? = some l) (hr : rs[j]? = some r) (hm : (markRecords s p rs)[j]? = some m) :
    Marked s.overlays.records.head? l.kind r m := by
  rw [markRecords, List.getElem?_zipWith, hl, hr] at hm
  cases hm
  exact markRecord_marked _ _ _

/-! ### The pixels of an image (R67) -/

theorem pixelAt_drawCanvas {w h x y : Nat} (ls : List Layer) (hx : x < w) (hy : y < h) :
    pixelAt (drawCanvas w h ls) x y = some (ls.foldl (layerPixel x y) 0#4) := by
  simp [pixelAt, drawCanvas, hx, hy]

/-- A layer leaves a pixel outside its rectangle. -/
theorem layerPixel_outside {x y : Nat} {l : Layer} (h : x < l.x ∨ l.x + l.width ≤ x ∨ y < l.y ∨ l.y + l.height ≤ y) (under : Pixel) :
    layerPixel x y under l = under := if_neg (by omega)

theorem layerPixel_filled {x y a b w h : Nat} (p under : Pixel) (hx : a ≤ x) (hx' : x < a + w) (hy : b ≤ y) (hy' : y < b + h) :
    layerPixel x y under (filled a b w h p) = p := if_pos ⟨hx, hx', hy, hy'⟩

/-! ### The test pattern (R59) -/

/-- Folding steps that change nothing. -/
theorem foldl_fixed {α β : Type} {f : β → α → β} {l : List α} {u : β} (h : ∀ a ∈ l, ∀ u, f u a = u) : l.foldl f u = u := by
  induction l generalizing u with
  | nil => rfl
  | cons a l ih => rw [List.foldl_cons, h a List.mem_cons_self, ih fun b hb => h b (List.mem_cons_of_mem _ hb)]

/-- Folding steps of which one alone changes anything. -/
theorem foldl_single {α β : Type} {f : β → α → β} {l : List α} {a : α} (hl : l.Nodup) (ha : a ∈ l)
    (h : ∀ b ∈ l, b ≠ a → ∀ u, f u b = u) (u : β) : l.foldl f u = f u a := by
  induction l generalizing u with
  | nil => cases ha
  | cons c l ih =>
    obtain ⟨hc, hl⟩ := List.nodup_cons.mp hl
    rw [List.foldl_cons]
    by_cases hca : c = a
    · subst hca
      exact foldl_fixed fun b hb => h b (List.mem_cons_of_mem _ hb) fun hbc => hc (hbc ▸ hb)
    · rw [h c List.mem_cons_self hca]
      exact ih hl ((List.mem_cons.mp ha).resolve_left (Ne.symm hca)) (fun b hb => h b (List.mem_cons_of_mem _ hb)) u

section

variable {g : Placement} {x y : Nat}

/-- The test pattern of a panel lies within its region. -/
theorem testPanel_outside (hw : 60 ≤ g.width) (hh : 8 ≤ g.height) (h : x < g.x ∨ g.x + g.width ≤ x ∨ y < g.y ∨ g.y + g.height ≤ y)
    (p : Pos) (under : Pixel) : (testPanel p g).foldl (layerPixel x y) under = under := by
  refine foldl_fixed fun l hl => layerPixel_outside ?_
  rcases List.mem_cons.mp hl with rfl | hl
  · exact h
  · obtain ⟨i, hi, rfl⟩ := List.mem_map.mp hl
    have := List.mem_range.mp hi
    dsimp only [filled]
    omega

/-- A row of the colour bars: bar n at columns 4n to 4n + 3, and nothing from column 60. -/
theorem bars_pixel {col row : Nat} (hrow : row < g.height) (hbar : g.height ≤ row + 8) (hh : 8 ≤ g.height) (under : Pixel) :
    ((List.range 15).map fun i => filled (g.x + 4 * i) (g.y + g.height - 8) 4 8 (BitVec.ofNat 4 (i + 1))).foldl
      (layerPixel (g.x + col) (g.y + row)) under = if col < 60 then BitVec.ofNat 4 (col / 4 + 1) else under := by
  have hother (i : Nat) (h : i ≠ col / 4) (u : Pixel) : layerPixel (g.x + col) (g.y + row) u
      (filled (g.x + 4 * i) (g.y + g.height - 8) 4 8 (BitVec.ofNat 4 (i + 1))) = u :=
    layerPixel_outside (by dsimp only [filled]; omega) u
  rw [List.foldl_map]
  split
  · rw [foldl_single (a := col / 4) List.nodup_range (List.mem_range.mpr (by omega)) (fun i _ h => hother i h)]
    exact layerPixel_filled _ _ (by omega) (by omega) (by omega) (by omega)
  · exact foldl_fixed fun i hi => hother i (by have := List.mem_range.mp hi; omega)

/-- A row above the colour bars. -/
theorem bars_above {col row : Nat} (habove : row + 8 < g.height) (under : Pixel) :
    ((List.range 15).map fun i => filled (g.x + 4 * i) (g.y + g.height - 8) 4 8 (BitVec.ofNat 4 (i + 1))).foldl
      (layerPixel (g.x + col) (g.y + row)) under = under := by
  rw [List.foldl_map]
  exact foldl_fixed fun i _ => layerPixel_outside (by dsimp only [filled]; omega)

/-- The digit of a position stands in five columns and seven rows of font 0. -/
theorem digit_pixel (p : Pos) (left top col row : Nat) : textPixel none top (left + col) (top + row) left [48 + p.num] = true ↔
    col < 5 ∧ row < 7 ∧ Config.font0Pixel (48 + (p.val + 1)) row col = true := by
  have hnum : 33 ≤ 48 + p.num ∧ 48 + p.num ≤ 126 := by
    have := p.isLt
    unfold Pos.num
    omega
  have hwidth : glyphWidth none (48 + p.num) = 5 := if_pos ⟨by omega, hnum.2⟩
  have hpixel : glyphPixel none (48 + p.num) row col = Config.font0Pixel (48 + p.num) row col :=
    (if_neg (by omega)).trans (if_pos hnum)
  unfold textPixel
  dsimp only
  rw [hwidth, Nat.add_sub_cancel_left, show (((left + col : Nat) : Int) - left).toNat = col by omega, hpixel]
  by_cases hcol : col < 5
  · rw [if_pos (by omega), Bool.and_eq_true, decide_eq_true_iff]
    simp [hcol, fontHeight, Pos.num]
  · rw [if_neg (by omega)]
    simp [textPixel, hcol]

/-- The test pattern of a panel, pixel by pixel (R59). -/
theorem testPanel_pixel {col row : Nat} (hh : 16 ≤ g.height) (hcol : col < g.width) (hrow : row < g.height) (p : Pos) :
    (testPanel p g).foldl (layerPixel (g.x + col) (g.y + row)) 0#4 =
      if g.height ≤ row + 8 then (if col < 60 then BitVec.ofNat 4 (col / 4 + 1) else 0#4)
      else if col < 5 ∧ row < 7 ∧ Config.font0Pixel (48 + (p.val + 1)) row col = true then 15#4 else 0#4 := by
  rw [testPanel, List.foldl_cons, layerPixel, if_pos (by dsimp only; omega)]
  dsimp only
  simp only [digit_pixel, Option.getD_none]
  by_cases hbar : g.height ≤ row + 8
  · have habove : ¬ (col < 5 ∧ row < 7 ∧ Config.font0Pixel (48 + (p.val + 1)) row col = true) := fun h => by omega
    rw [if_pos hbar, bars_pixel hrow hbar (by omega), if_neg habove]
  · rw [if_neg hbar, bars_above (by omega)]

end

/-- The test pattern of one position: that of its panel, where one is placed. -/
def testAt (b : Board) (p : Pos) : List Layer := (b.places.get p).elim [] (testPanel p)

theorem testLayers_eq (b : Board) : testLayers b = Pos.all.flatMap (testAt b) := by
  refine congrArg (fun f => Pos.all.flatMap f) (funext fun p => ?_)
  unfold testAt
  cases b.places.get p <;> rfl

theorem posAll_nodup : Pos.all.Nodup := by decide

section

variable {b : Board} (h : LayoutOk b)

include h

/-- A position whose region does not hold the pixel leaves it. -/
theorem testAt_outside {p : Pos} {x y : Nat}
    (hout : ∀ g, b.places.get p = some g → x < g.x ∨ g.x + g.width ≤ x ∨ y < g.y ∨ g.y + g.height ≤ y) (u : Pixel) :
    (testAt b p).foldl (layerPixel x y) u = u := by
  unfold testAt
  cases hp : b.places.get p with
  | none => rfl
  | some g =>
    obtain ⟨-, -, -, -, -, hregion, -⟩ := h.geometry
    obtain ⟨-, -, hw, hh, -⟩ := (regionOk_iff _ _ g).mp (hregion p g hp).2
    exact testPanel_outside (by omega) (by omega) (hout g hp) p u

/-- The test pattern where no placed panel shows it. -/
theorem testLayers_outside {x y : Nat}
    (hout : ∀ p g, b.places.get p = some g → x < g.x ∨ g.x + g.width ≤ x ∨ y < g.y ∨ g.y + g.height ≤ y) :
    (testLayers b).foldl (layerPixel x y) 0#4 = 0#4 := by
  rw [testLayers_eq, List.foldl_flatMap]
  exact foldl_fixed fun p _ => testAt_outside h (hout p)

/-- The test pattern within a placed panel's region, which no other panel shares. -/
theorem testLayers_inside {p : Pos} {g : Placement} {col row : Nat} (hp : b.places.get p = some g) (hcol : col < g.width)
    (hrow : row < g.height) : (testLayers b).foldl (layerPixel (g.x + col) (g.y + row)) 0#4 =
      if g.height ≤ row + 8 then (if col < 60 then BitVec.ofNat 4 (col / 4 + 1) else 0#4)
      else if col < 5 ∧ row < 7 ∧ Config.font0Pixel (48 + (p.val + 1)) row col = true then 15#4 else 0#4 := by
  obtain ⟨-, -, -, -, -, hregion, hapart, -⟩ := h.geometry
  obtain ⟨-, -, hw, hh, -⟩ := (regionOk_iff _ _ g).mp (hregion p g hp).2
  have hother (q : Pos) (hq : q ≠ p) (u : Pixel) : (testAt b q).foldl (layerPixel (g.x + col) (g.y + row)) u = u := by
    refine testAt_outside h (fun o ho => ?_) u
    have := (overlap_eq_false_iff g o).mp (hapart p q g o hq.symm hp ho)
    omega
  rw [testLayers_eq, List.foldl_flatMap, foldl_single posAll_nodup (mem_posAll p) (fun q _ hq => hother q hq), testAt, hp]
  exact testPanel_pixel (by omega) hcol hrow p

end

/-- Settles O20, by the mode and the overlay on top. -/
theorem renderRequested : Obligations.RenderRequested := by
  refine ⟨fun s => ⟨fun hcoding => if_pos hcoding, fun hidle => ⟨requestRender_none hidle, fun hm => ?_, fun hm => ?_, fun hm hc => ⟨?_, ?_⟩,
    fun hm i p rs hc hp hl hlen => ?_⟩⟩, fun s o f fg bg lang top => fullLayers_eq o, ?_, ?_, ?_⟩
  · exact rendersTo_of_paint (drawCanvas_nil _ _ ▸ requestRender_blank hidle hm)
  · exact rendersTo_of_paint (requestRender_test hidle hm)
  · intro o ho hf
    have hrender := (requestRender_page hidle hm).trans (renderPage_bare hc)
    exact rendersTo_of_paint (barePage_full ho hf ▸ hrender)
  · intro hband
    have hrender := (requestRender_page hidle hm).trans (renderPage_bare hc)
    rw [barePage_band hband, drawCanvas_nil] at hrender
    exact rendersTo_of_paint hrender
  · have hrender := (requestRender_page hidle hm).trans (renderPage_current hc hp hl)
    refine ⟨markRecords s p rs, by simp [markRecords, hlen], fun j l r m hl hr hm => markRecords_getElem? hl hr hm, fun o ho hf => ?_,
      fun hband => ?_⟩
    · exact rendersTo_of_paint (pageLayers_full ho hf p rs ▸ hrender)
    · exact rendersTo_of_paint (pageLayers_band hband p rs ▸ hrender)
  · intro c
    refine ⟨fun sel form value hc => hc ▸ rfl, fun st t hc => hc ▸ rfl, ?_⟩
    rintro i (rfl | rfl) <;> rfl
  · exact fun w h x y ls hx hy => pixelAt_drawCanvas ls hx hy
  · intro b x y h hx hy
    rw [pixelAt_drawCanvas _ hx hy]
    refine ⟨fun hout => congrArg some (testLayers_outside h hout), ?_⟩
    rintro p g col row hp rfl rfl hcol hrow
    exact congrArg some (testLayers_inside h hp hcol hrow)

end Sys2Proof.Machine

end

/-! What lines hold and what is drawn of them: records, phrases, fonts, glyphs, widths, truncation and placement (R80 to R87, R97, R99,
R106, R110 to R113). -/

section

namespace Sys2Proof.Machine

open Sys2Proof

/-! ### The content of a line record (R80, R81, R86) -/

theorem blankTimes_iff (c : Supervisor) : blankTimes c = true ↔ c.state = .expired ∧ c.action = .blankTimes := by
  simp [blankTimes]

theorem selectRecord_eq (f : BitVec 16) (rank : Nat) (showCancelled : Bool) (rs : List Live) :
    selectRecord f rank showCancelled rs = (rs.filter fun r => 1 ≤ r.dep.platform && f.getLsbD (r.dep.platform - 1)
      && (decide (r.dep.status ≠ .cancelled) || showCancelled))[rank - 1]? := by
  unfold selectRecord
  refine congrArg (fun p => (List.filter p rs)[rank - 1]?) (funext fun r => ?_)
  rw [eligible, inFilter, bne, beq_eq_decide, ← decide_not]

section

variable {s : State} {f : BitVec 16} {rank : Nat} {showCancelled : Bool} (x y z : Field)

theorem buildContent_unselected (h : selectRecord f rank showCancelled s.table.records = none) :
    buildContent s (.departure f rank showCancelled x y z) = .departure none .empty .none := by
  rw [buildContent, h]

theorem buildContent_selected {r : Live} (h : selectRecord f rank showCancelled s.table.records = some r) :
    buildContent s (.departure f rank showCancelled x y z) =
      .departure (some ⟨r.dep.trip, r.dep.platform, r.dep.linePh, r.dep.destPh⟩)
        (if s.sup.state = .expired ∧ s.sup.action = .blankTimes then .empty else r.form)
        (timeValue s r (if s.sup.state = .expired ∧ s.sup.action = .blankTimes then .empty else r.form)) := by
  rw [buildContent, h]
  simp only [blankTimes_iff]

end

/-- The time value by the time form (R81). -/
theorem timeValue_spec (s : State) (r : Live) (form : TimeForm) :
    (form = .minutes → ∀ m, r.shown = some m → timeValue s r form = .minutes m s.board.countdown.suffix)
    ∧ (form = .due → timeValue s r form = .phrase s.board.countdown.duePh)
    ∧ (form = .status → r.dep.status = .cancelled → timeValue s r form = .phrase s.board.countdown.cancelled)
    ∧ (form = .status → r.dep.status = .held → timeValue s r form = .phrase s.board.countdown.held)
    ∧ (form = .status → r.dep.status = .delayed → timeValue s r form = .phrase s.board.countdown.delayed)
    ∧ (form = .clock →
        timeValue s r form = .time (if s.board.allowed = true then r.dep.predicted.getD r.dep.scheduled else r.dep.scheduled))
    ∧ (form = .empty → timeValue s r form = .none) := by
  refine ⟨?_, ?_, ?_, ?_, ?_, ?_, ?_⟩ <;> rintro rfl
  · intro m hm
    rw [timeValue, hm]
  · rfl
  · intro hst
    rw [timeValue, hst]
    rfl
  · intro hst
    rw [timeValue, hst]
    rfl
  · intro hst
    rw [timeValue, hst]
    rfl
  · rfl
  · rfl

/-! ### What is drawn for a content (R82 to R85, R87, R97) -/

theorem isSome_findPhrase (i : Nat) (ps : List Phrase) : (findPhrase i ps).isSome = ps.any fun q => q.id == i := by
  rw [Bool.eq_iff_iff, findPhrase, List.find?_isSome, List.any_eq_true]

theorem twoDigits_small {n : Nat} (h : n ≤ 99) : twoDigits n = [48 + n / 10, 48 + n % 10] := by
  rw [twoDigits, Nat.mod_eq_of_lt (by omega : n / 10 < 10)]

/-- The text of a time field by its form (R84, R85). -/
theorem timeCodes_spec (s : State) (lang : Nat) (form : TimeForm) (value : TimeValue) :
    (∀ m i, form = .minutes → value = .minutes m i → m ≤ 99 →
      timeCodes s lang form value = (if m < 10 then [48 + m] else [48 + m / 10, 48 + m % 10])
        ++ if (s.phrases.any fun q => q.id == i) = true then 32 :: phraseCodes s.phrases lang i else [])
    ∧ (∀ i, form = .due ∨ form = .status → value = .phrase i → timeCodes s lang form value = phraseCodes s.phrases lang i)
    ∧ (∀ t, form = .clock → value = .time t → timeCodes s lang form value = clockCodes .hhmm (some t))
    ∧ (form = .empty → timeCodes s lang form value = []) := by
  refine ⟨?_, ?_, ?_, ?_⟩
  · rintro m i rfl rfl hm
    dsimp only [timeCodes, minutesCodes, minutesDigits]
    rw [twoDigits_small hm, isSome_findPhrase]
    split <;> simp
  · rintro i (rfl | rfl) rfl <;> rfl
  · rintro t rfl rfl
    rfl
  · rintro rfl
    rfl

/-- A present field is a text in its own area, an absent one nothing (R82). -/
theorem fieldLayer_append (l : LineDef) (f : Option Font) (fd : Field) (a : Align) (codes : List Nat)
    (rest : List (Field × Align × List Nat)) :
    fieldLayer l f fd a codes ++ (rest.filter fun f => f.1.width ≠ 0).map
        (fun e => placedText (l.x + e.1.x) l.y e.1.width l.height l.fg f e.2.1 e.2.2)
      = (((fd, a, codes) :: rest).filter fun f => f.1.width ≠ 0).map
        (fun e => placedText (l.x + e.1.x) l.y e.1.width l.height l.fg f e.2.1 e.2.2) := by
  by_cases hw : fd.width = 0 <;> simp [fieldLayer, hw]

theorem clockCodes_some (fmt : ClockFormat) (t : Nat) :
    clockCodes fmt (some t) = [48 + t / 3600 % 24 / 10, 48 + t / 3600 % 24 % 10, 58, 48 + t / 60 % 60 / 10, 48 + t / 60 % 60 % 10]
      ++ (if fmt = .hhmmss then [58, 48 + t % 60 / 10, 48 + t % 60 % 10] else []) := by
  have hmin : t % 3600 / 60 = t / 60 % 60 := by omega
  have hhour := twoDigits_small (n := t / 3600 % 24) (by omega)
  have hminute := twoDigits_small (n := t / 60 % 60) (by omega)
  have hsecond := twoDigits_small (n := t % 60) (by omega)
  cases fmt with
  | hhmm =>
    rw [clockCodes, hhmmCodes, hmin, hhour, hminute]
    rfl
  | hhmmss =>
    rw [clockCodes, hhmmssCodes, hhmmCodes, hmin, hhour, hminute, hsecond]
    rfl

theorem clockCodes_none (fmt : ClockFormat) :
    clockCodes fmt none = [45, 45, 58, 45, 45] ++ if fmt = .hhmmss then [58, 45, 45] else [] := by
  cases fmt <;> rfl

/-! ### Phrases and fonts (R106, R110) -/

theorem phraseCodes_held {ps : List Phrase} {lang id : Nat} {p : Phrase} {own : List Byte}
    (hp : ps.find? (fun q => q.id == id) = some p) (hown : (lang = 0 ∧ own = p.v0) ∨ (lang = 1 ∧ own = p.v1) ∨ (lang = 2 ∧ own = p.v2)) :
    phraseCodes ps lang id =
      (if own ≠ [] then own else if p.v0 ≠ [] then p.v0 else if p.v1 ≠ [] then p.v1 else p.v2).map fun b => b.toNat := by
  have hvariant : variant p lang = own := by rcases hown with ⟨rfl, rfl⟩ | ⟨rfl, rfl⟩ | ⟨rfl, rfl⟩ <;> rfl
  rw [phraseCodes, show findPhrase id ps = some p from hp]
  dsimp only
  rw [chooseVariant, hvariant]

theorem uploaded_eq_some_iff (fs : Fonts) (id : Nat) (f : Font) :
    uploaded fs id = some f ↔ (id = 1 ∧ fs.f1 = some f) ∨ (id = 2 ∧ fs.f2 = some f) ∨ (id = 3 ∧ fs.f3 = some f) := by
  unfold uploaded
  split
  · simp
  · simp
  · simp
  · next h1 h2 h3 =>
    refine iff_of_false (fun h => by cases h) ?_
    rintro (⟨h, -⟩ | ⟨h, -⟩ | ⟨h, -⟩)
    · exact h1 h
    · exact h2 h
    · exact h3 h

theorem resolveFont_eq_some_iff (fs : Fonts) (id : Nat) (f : Font) : resolveFont fs id = some f ↔
    ((id = 1 ∧ fs.f1 = some f) ∨ (id = 2 ∧ fs.f2 = some f) ∨ (id = 3 ∧ fs.f3 = some f)) ∧ f.glyphs ≠ [] := by
  rw [resolveFont, Option.filter_eq_some_iff, uploaded_eq_some_iff]
  simp

/-! ### Glyphs (R107, R111) -/

/-- A code without a glyph is drawn as a box four columns wide. -/
theorem missingGlyph_box {f : Option Font} {code : Nat} (h : MissingGlyph f code) (row col : Nat) : glyphWidth f code = 4
    ∧ (glyphPixel f code row col = true ↔ row = 0 ∨ row + 1 = fontHeight f ∨ col = 0 ∨ col = 3) := by
  have hbox (height : Nat) : boxPixel height row col = true ↔ row = 0 ∨ row + 1 = height ∨ col = 0 ∨ col = 3 := by
    simp [boxPixel, or_assoc]
  cases f with
  | none =>
    have hout : code < 32 ∨ 126 < code := h
    refine ⟨if_neg (by omega), ?_⟩
    rw [glyphPixel, if_neg (by omega), if_neg (by omega)]
    exact hbox 7
  | some f =>
    have hnone : findGlyph code f = none := by simpa [findGlyph, MissingGlyph] using h
    rw [glyphWidth, glyphPixel, hnone]
    exact ⟨rfl, hbox f.height⟩

theorem font0_glyph {code : Nat} (hlow : 32 ≤ code) (hhigh : code ≤ 126) (row col : Nat) : glyphWidth none code = 5
    ∧ (code = 32 → glyphPixel none code row col = false)
    ∧ (code ≠ 32 → glyphPixel none code row col = Config.font0Pixel code row col) :=
  ⟨if_pos ⟨hlow, hhigh⟩, fun h => if_pos h, fun h => (if_neg h).trans (if_pos ⟨by omega, hhigh⟩)⟩

theorem held_glyph {f : Font} {g : Glyph} {code : Nat} (h : f.glyphs.find? (fun g => g.code == code) = some g) (row col : Nat) :
    glyphWidth (some f) code = g.width
    ∧ glyphPixel (some f) code row col = (g.bitmap.getD (row * ((g.width + 7) / 8) + col / 8) 0#8).getMsbD (col % 8) := by
  rw [glyphWidth, glyphPixel, show findGlyph code f = some g from h]
  exact ⟨rfl, rfl⟩

/-! ### Texts (R111) -/

/-- How far the text after the first glyphs stands from the left edge of the text. -/
def advance (f : Option Font) (codes : List Nat) : Nat := (codes.map fun c => glyphWidth f c + fontSpacing f).sum

theorem advance_cons (f : Option Font) (c : Nat) (cs : List Nat) : advance f (c :: cs) = glyphWidth f c + fontSpacing f + advance f cs := by
  simp [advance]

/-- A text sets a pixel exactly where the glyph whose cell holds the column sets it. -/
theorem textPixel_iff (f : Option Font) (top x y : Nat) (codes : List Nat) (left : Int) : textPixel f top x y left codes = true ↔
    ∃ i c, codes[i]? = some c ∧ left + advance f (codes.take i) ≤ x ∧ (x : Int) < left + advance f (codes.take i) + glyphWidth f c
      ∧ top ≤ y ∧ y < top + fontHeight f ∧ glyphPixel f c (y - top) ((x : Int) - (left + advance f (codes.take i))).toNat = true := by
  induction codes generalizing left with
  | nil => simp [textPixel]
  | cons d ds ih =>
    have hzero : advance f ((d :: ds).take 0) = 0 := rfl
    rw [textPixel]
    split
    · next hcell =>
      rw [Bool.and_eq_true, decide_eq_true_iff]
      constructor
      · rintro ⟨⟨htop, hbottom⟩, hpixel⟩
        refine ⟨0, d, rfl, ?_, ?_, htop, hbottom, ?_⟩
        all_goals rw [hzero, Int.natCast_zero, Int.add_zero]
        · exact hcell.1
        · exact hcell.2
        · exact hpixel
      · rintro ⟨i, c, hc, hle, hlt, htop, hbottom, hpixel⟩
        cases i with
        | zero =>
          cases hc
          rw [hzero, Int.natCast_zero, Int.add_zero] at hpixel
          exact ⟨⟨htop, hbottom⟩, hpixel⟩
        | succ i =>
          rw [List.take_succ_cons, advance_cons] at hle
          omega
    · next hcell =>
      rw [ih]
      constructor
      · rintro ⟨i, c, hc, hle, hlt, hrest⟩
        refine ⟨i + 1, c, hc, ?_⟩
        have hedge : left + (advance f ((d :: ds).take (i + 1)) : Int) = left + glyphWidth f d + fontSpacing f + advance f (ds.take i) := by
          rw [List.take_succ_cons, advance_cons]
          push_cast
          ring
        rw [hedge]
        exact ⟨hle, hlt, hrest⟩
      · rintro ⟨i, c, hc, hle, hlt, hrest⟩
        cases i with
        | zero =>
          cases hc
          rw [hzero] at hle hlt
          exact absurd ⟨by omega, by omega⟩ hcell
        | succ i =>
          have hedge : left + (advance f ((d :: ds).take (i + 1)) : Int) = left + glyphWidth f d + fontSpacing f + advance f (ds.take i) := by
            rw [List.take_succ_cons, advance_cons]
            push_cast
            ring
          rw [hedge] at hle hlt hrest
          exact ⟨i, c, hc, hle, hlt, hrest⟩

/-! ### Truncation and placement (R112, R113) -/

/-- The count that truncation keeps is the largest, up to a bound, of those that fit. -/
theorem fitCount_spec (f : Option Font) (w : Nat) (codes : List Nat) (n : Nat) : fitCount f w codes n ≤ n
    ∧ textWidth f (codes.take (fitCount f w codes n)) ≤ w
    ∧ ∀ j, fitCount f w codes n < j → j ≤ n → w < textWidth f (codes.take j) := by
  induction n with
  | zero => exact ⟨Nat.le_refl 0, by simp [fitCount, textWidth], fun j h h' => by omega⟩
  | succ n ih =>
    obtain ⟨hle, hfit, hmax⟩ := ih
    rw [fitCount]
    split
    · next hn => exact ⟨Nat.le_refl _, hn, fun j h h' => by omega⟩
    · next hn =>
      refine ⟨Nat.le_succ_of_le hle, hfit, fun j hj hjn => ?_⟩
      rcases Nat.lt_or_eq_of_le hjn with hlt | rfl
      · exact hmax j hj (Nat.le_of_lt_succ hlt)
      · exact Nat.lt_of_not_le hn

/-- The leading glyphs that a placed text keeps: all where they fit, else as many as do. -/
theorem placedText_kept (f : Option Font) (w : Nat) (codes : List Nat) : ∃ k, k ≤ codes.length ∧ textWidth f (codes.take k) ≤ w
    ∧ (∀ j, k < j → j ≤ codes.length → w < textWidth f (codes.take j))
    ∧ (if textWidth f codes ≤ w then codes else truncate f w codes) = codes.take k := by
  by_cases hw : textWidth f codes ≤ w
  · refine ⟨codes.length, Nat.le_refl _, by rwa [List.take_length], fun j h h' => by omega, ?_⟩
    rw [if_pos hw, List.take_length]
  · obtain ⟨hle, hfit, hmax⟩ := fitCount_spec f w codes codes.length
    exact ⟨_, hle, hfit, hmax, if_neg hw⟩

theorem placedText_spec (x y w h : Nat) (ink : Pixel) (f : Option Font) (a : Align) (codes : List Nat) : ∃ k left : Nat,
    k ≤ codes.length ∧ textWidth f (codes.take k) ≤ w ∧ (∀ j, k < j → j ≤ codes.length → w < textWidth f (codes.take j))
    ∧ (a = .left → left = x) ∧ (a = .right → left + textWidth f (codes.take k) = x + w)
    ∧ (a = .centre → left = x + (w - textWidth f (codes.take k)) / 2)
    ∧ placedText x y w h ink f a codes =
        { x := x, y := y, width := w, height := h, fill := none, ink := ink, font := f, codes := codes.take k, left := (left : Int),
          top := if fontHeight f ≤ h then y + (h - fontHeight f) / 2 else y } := by
  obtain ⟨k, hk, hfit, hmax, hkept⟩ := placedText_kept f w codes
  refine ⟨k, alignedLeft a x w (textWidth f (codes.take k)), hk, hfit, hmax, ?_, ?_, ?_, ?_⟩
  · rintro rfl
    rfl
  · rintro rfl
    exact Nat.sub_add_cancel (by omega)
  · rintro rfl
    rfl
  · rw [placedText, hkept]
    rfl

theorem overlayText_placed {o : Overlay} {f : Option Font} {codes : List Nat} {w : Nat} (h : o.present = .still ∨ textWidth f codes ≤ w)
    (since x y height : Nat) (ink : Pixel) (top : Nat) :
    overlayText o since x y w height ink f top codes = { placedText x y w height ink f .left codes with top := top } := by
  refine if_neg ?_
  rw [scrollsIn_iff]
  rintro ⟨hscroll, hwide⟩
  rcases h with h | h
  · rw [h] at hscroll
    cases hscroll
  · omega

theorem overlayText_scrolling {o : Overlay} {f : Option Font} {codes : List Nat} {w : Nat} (h : o.present = .scroll)
    (hwide : w < textWidth f codes) (since x y height : Nat) (ink : Pixel) (top : Nat) :
    overlayText o since x y w height ink f top codes =
      { x := x, y := y, width := w, height := height, fill := none, ink := ink, font := f, codes := codes,
        left := (x : Int) + w - ((since * o.speed / 16 % (textWidth f codes + w) : Nat) : Int), top := top } :=
  if_pos ((scrollsIn_iff _ _ _ _).mpr ⟨h, hwide⟩)

/-! ### The statement -/

/-- A departure line draws its present fields, each a text in its own area (R82 to R84). -/
theorem contentLayers_departure {s : State} {lang : Nat} {l : LineDef} {r : LineRecord} {top : Option Overlay} {flt : BitVec 16} {n : Nat}
    {sc : Bool} {code dest time : Field} {sel : Selected} {form : TimeForm} {value : TimeValue}
    (hk : l.kind = .departure flt n sc code dest time) (hr : r.content = .departure (some sel) form value) :
    contentLayers s lang l r top =
      ([(code, Align.left, phraseCodes s.phrases lang sel.linePh), (dest, .left, phraseCodes s.phrases lang sel.destPh),
          (time, .right, timeCodes s lang form value)].filter fun f => f.1.width ≠ 0).map
        (fun f => placedText (l.x + f.1.x) l.y f.1.width l.height l.fg (resolveFont s.fonts l.font) f.2.1 f.2.2) := by
  rw [← fieldLayer_append, ← fieldLayer_append, ← fieldLayer_append, contentLayers, hk, hr]
  simp

/-- Settles O19, one part for the record's content, for what is drawn of it, and for each step from a text to its pixels. -/
theorem lineContents : Obligations.LineContents := by
  refine ⟨?_, ?_, ?_, ?_, resolveFont_eq_some_iff, ?_, ?_, placedText_spec, ?_⟩
  · intro s f rank showCancelled x y z fmt a id
    refine ⟨fun sel hsel => ?_, rfl, rfl, rfl⟩
    rw [← selectRecord_eq] at hsel
    refine ⟨fun hnone => buildContent_unselected x y z (hsel.symm.trans hnone), fun r hr => ?_⟩
    exact ⟨_, _, buildContent_selected x y z (hsel.symm.trans hr), rfl, timeValue_spec s r _⟩
  · rintro s lang l r top font rfl
    refine ⟨fun flt n sc code dest time form value hk => ⟨fun hr => ?_, fun sel hr => ?_⟩, fun fmt a st t hk hr => ?_,
      fun i j a hk hr => ?_, fun i j hk hr => ⟨fun htop => ?_, fun o htop => ?_⟩⟩
    · rw [contentLayers, hk, hr]
    · exact ⟨_, contentLayers_departure hk hr, timeCodes_spec s lang form value⟩
    · rw [contentLayers, hk, hr]
    · rw [contentLayers, hk, hr]
    · rw [contentLayers, hk, hr, htop]
    · rw [contentLayers, hk, hr, htop]
  · rintro fmt t h m rfl rfl
    exact ⟨clockCodes_some fmt t, clockCodes_none fmt⟩
  · intro ps lang id
    refine ⟨fun hnone => phraseCodes_of_missing lang ?_, fun p own hp hown => phraseCodes_held hp hown⟩
    simpa [findPhrase] using hnone
  · intro f code row col
    refine ⟨fun h => missingGlyph_box h row col, ?_, ?_⟩
    · rintro rfl hlow hhigh
      exact font0_glyph hlow hhigh row col
    · rintro x g rfl hg
      exact held_glyph hg row col
  · intro f codes top x y left
    refine ⟨by simp [textWidth], fun _ => rfl, (textPixel_iff f top x y codes left).trans ?_⟩
    constructor
    · rintro ⟨i, c, hc, hrest⟩
      exact ⟨i, c, _, hc, rfl, hrest⟩
    · rintro ⟨i, c, edge, hc, rfl, hrest⟩
      exact ⟨i, c, hc, hrest⟩
  · exact fun o since x y w h ink f top codes => ⟨fun hfit => overlayText_placed hfit since x y h ink top,
      fun hs hwide => overlayText_scrolling hs hwide since x y h ink top⟩

end Sys2Proof.Machine

end
